-- ==== Sys2Proof/Word.lean ====
section
/-! DEFINITION. Word.lean: the widths the spec gives values (00_scope.md R9: bytes, bit 0 least significant,
everything unsigned). -/

namespace Sys2Proof

/-- A byte: data bytes, port addresses, register-file bytes (00_scope.md R9). -/
abbrev Byte := BitVec 8

/-- A memory address as the processor presents it (20_memory.md R40). -/
abbrev Addr := BitVec 16

end Sys2Proof
end

