-- ==== Sys2Proof/Config.lean ====
section
/-! DEFINITION. Config.lean: the model configurations (00_scope.md R7), the global parameters that the spec
fixes (R8), and the two open byte arrays (93_implementation_defined.md U1, U2). The other open parameters
(LINK_IDLE, STARTUP_TICKS, UPERIOD) are fields of State, so that a statement about every state holds for every
value of them. -/

namespace Sys2Proof

/-- The eight model configurations, in the order of 00_scope.md R7. -/
inductive Model where
  | m85 | m86 | m82 | m83 | m83p | m83se | m84p | m84se
  deriving DecidableEq, Repr

/-- Mapper family (00_scope.md R7), each with the parameters the table gives that family alone: `PAGE_IDX` for A,
`RAMSEL_BIT` and `HAS_PAGEC` for D. -/
inductive Family where
  | A (pageIdx : Fin 32)
  | B
  | C
  | D (ramselBit : Nat) (hasPagec : Bool)
  deriving DecidableEq, Repr

/-- A configuration record `cfg` (00_scope.md R7). -/
structure Cfg where
  /-- `TAG`, in bits 11:8 of the decode key (30_encoding.md R62). -/
  tag : BitVec 12
  family : Family
  romSize : Nat
  ramSize : Nat
  hasLcdc : Bool
  deriving DecidableEq, Repr

/-- `HAS_PAGEC`: only expanded Family D models have it (00_scope.md R7). -/
def Cfg.hasPagec (c : Cfg) : Bool :=
  match c.family with
  | .D _ b => b
  | .A _ => false
  | .B => false
  | .C => false

/-- The configuration of each model: the table of 00_scope.md R7. -/
def Model.cfg : Model → Cfg
  | .m85   => ⟨0x000, .A 5,       0x020000, 0x08000, false⟩
  | .m86   => ⟨0x100, .B,         0x040000, 0x20000, false⟩
  | .m82   => ⟨0x200, .A 2,       0x020000, 0x08000, true⟩
  | .m83   => ⟨0x300, .C,         0x040000, 0x08000, true⟩
  | .m83p  => ⟨0x400, .D 6 false, 0x080000, 0x08000, true⟩
  | .m83se => ⟨0x500, .D 7 true,  0x200000, 0x20000, true⟩
  | .m84p  => ⟨0x600, .D 7 true,  0x100000, 0x20000, true⟩
  | .m84se => ⟨0x700, .D 7 true,  0x200000, 0x20000, true⟩

/-- The model index of 00_scope.md R7. -/
def Model.index : Model → Fin 8
  | .m85 => 0 | .m86 => 1 | .m82 => 2 | .m83 => 3
  | .m83p => 4 | .m83se => 5 | .m84p => 6 | .m84se => 7

/-- The model of an index; none above 7 (93_implementation_defined.md U14). -/
def Model.ofIndex : Nat → Option Model
  | 0 => some .m85 | 1 => some .m86 | 2 => some .m82 | 3 => some .m83
  | 4 => some .m83p | 5 => some .m83se | 6 => some .m84p | 7 => some .m84se
  | _ => none

/-- `WINDOW_SIZE` (00_scope.md R8). -/
def Config.windowSize : Nat := 0x4000

/-- `NO_DEVICE` (00_scope.md R8). -/
def Config.noDevice : Byte := 0xFF

/-- `LCD_CONTRAST_RESET` (00_scope.md R8). -/
def Config.lcdContrastReset : BitVec 6 := 0x1F

/-- `COL_SET_MASK` (00_scope.md R8; 90_conflicts.md C4 follows the source's literal). -/
def Config.colSetMask : BitVec 5 := 0x0F

/-- `COL_MAX8` (00_scope.md R8). -/
def Config.colMax8 : BitVec 5 := 14

/-- `COL_MAX6` (00_scope.md R8). -/
def Config.colMax6 : BitVec 5 := 19

/-- `LOWPOWER_MASK` (00_scope.md R8). -/
def Config.lowPowerMask : Byte := 0x0F

/-- `LOWPOWER_PATTERN` (00_scope.md R8). -/
def Config.lowPowerPattern : Byte := 0x01

/-- `IRQ_MASK` (00_scope.md R8). -/
def Config.irqMask : Byte := 0x07

/-- `REFRESH_THRESHOLD`: 400 ticks at 100 percent (00_scope.md R8). -/
def Config.refreshThreshold : Nat := 40000

/-- `RAM_INIT` (00_scope.md R8, 93_implementation_defined.md U1): the byte that an unwritten index of the model's RAM
holds after reset. OPEN in the spec: a free value, no body (notes/assumptions/5.md). -/
opaque Config.ramInit : Model → Nat → Byte

/-- `ROM_IMAGE` (00_scope.md R8, 93_implementation_defined.md U2) at the indices a state's image does not list. OPEN in
the spec: a free value, no body (notes/assumptions/6.md). -/
opaque Config.romImage : Model → Nat → Byte

end Sys2Proof
end

