-- ==== Sys2Proof/Syntax.lean ====
section
/-! DEFINITION. Syntax.lean: the operations of the block, one constructor of `Instr` per row of
spec/opcode_table.json, and what is presented at the block's interfaces (00_scope.md R5, 30_encoding.md R60). -/

namespace Sys2Proof

/-- The operations, one per row of opcode_table.json. A full-key port row `<IN or OUT>.<CLASS>@<model>.<pp>`
(30_encoding.md R76) is the transaction at port `pp` while the model is the row's; an OUT carries its data byte.
The ignored bits of an LCD command byte (30_encoding.md R68) are operands `x`, so that a term holds the whole byte. -/
inductive Instr where
  | lcdSetcontrast (c : BitVec 6)
  | lcdSetrow (r : BitVec 6)
  | lcdSetscroll (z : BitVec 6)
  | lcdSetcol (x : BitVec 1) (y : BitVec 4)
  | lcdMode6 (x : BitVec 2)
  | lcdMode8 (x : BitVec 2)
  | lcdOff (x : BitVec 2)
  | lcdOn (x : BitVec 2)
  | lcdDirRowdec (x : BitVec 2)
  | lcdDirRowinc (x : BitVec 2)
  | lcdDirColdec (x : BitVec 2)
  | lcdDirColinc (x : BitVec 2)
  | inPlainM85_00
  | outPlainM85_00 (v : Byte)
  | inKeypadM85_01
  | outKeypadM85_01 (v : Byte)
  | inContrastM85_02
  | outContrastM85_02 (v : Byte)
  | inStatusM85_03
  | outControlM85_03 (v : Byte)
  | inPlainM85_04
  | outPlainM85_04 (v : Byte)
  | inPageM85_05
  | outPageM85_05 (v : Byte)
  | inPlainM85_06
  | outPlainM85_06 (v : Byte)
  | inLinkM85_07
  | outLinkM85_07 (v : Byte)
  | inPlainM86_00
  | outPlainM86_00 (v : Byte)
  | inKeypadM86_01
  | outKeypadM86_01 (v : Byte)
  | inContrastM86_02
  | outContrastM86_02 (v : Byte)
  | inStatusM86_03
  | outControlM86_03 (v : Byte)
  | inPlainM86_04
  | outPlainM86_04 (v : Byte)
  | inPageM86_05
  | outPageM86_05 (v : Byte)
  | inPageM86_06
  | outPageM86_06 (v : Byte)
  | inLinkM86_07
  | outLinkM86_07 (v : Byte)
  | inLinkM82_00
  | outLinkM82_00 (v : Byte)
  | inKeypadM82_01
  | outKeypadM82_01 (v : Byte)
  | inPageM82_02
  | outPageM82_02 (v : Byte)
  | inStatusM82_03
  | outControlM82_03 (v : Byte)
  | inPlainM82_04
  | outPlainM82_04 (v : Byte)
  | inPlainM82_05
  | outPlainM82_05 (v : Byte)
  | inPlainM82_06
  | outPlainM82_06 (v : Byte)
  | inPlainM82_07
  | outPlainM82_07 (v : Byte)
  | inLcdstatM82_10
  | outLcdcmdM82_10 (v : Byte)
  | inLcddataM82_11
  | outLcddataM82_11 (v : Byte)
  | inLinkM83_00
  | outLinkM83_00 (v : Byte)
  | inKeypadM83_01
  | outKeypadM83_01 (v : Byte)
  | inPageM83_02
  | outPageM83_02 (v : Byte)
  | inStatusM83_03
  | outControlM83_03 (v : Byte)
  | inPageM83_04
  | outMapselM83_04 (v : Byte)
  | inPlainM83_05
  | outPlainM83_05 (v : Byte)
  | inPlainM83_06
  | outPlainM83_06 (v : Byte)
  | inPlainM83_07
  | outPlainM83_07 (v : Byte)
  | inLcdstatM83_10
  | outLcdcmdM83_10 (v : Byte)
  | inLcddataM83_11
  | outLcddataM83_11 (v : Byte)
  | inLinkM83P_00
  | outLinkM83P_00 (v : Byte)
  | inKeypadM83P_01
  | outKeypadM83P_01 (v : Byte)
  | inPlainM83P_02
  | outPlainM83P_02 (v : Byte)
  | inControlM83P_03
  | outControlM83P_03 (v : Byte)
  | inStatusM83P_04
  | outMapselM83P_04 (v : Byte)
  | inPlainM83P_05
  | outPlainM83P_05 (v : Byte)
  | inPageM83P_06
  | outPageM83P_06 (v : Byte)
  | inPageM83P_07
  | outPageM83P_07 (v : Byte)
  | inLcdstatM83P_10
  | outLcdcmdM83P_10 (v : Byte)
  | inLcddataM83P_11
  | outLcddataM83P_11 (v : Byte)
  | inLinkM83SE_00
  | outLinkM83SE_00 (v : Byte)
  | inKeypadM83SE_01
  | outKeypadM83SE_01 (v : Byte)
  | inPlainM83SE_02
  | outPlainM83SE_02 (v : Byte)
  | inControlM83SE_03
  | outControlM83SE_03 (v : Byte)
  | inStatusM83SE_04
  | outMapselM83SE_04 (v : Byte)
  | inPageM83SE_05
  | outPageM83SE_05 (v : Byte)
  | inPageM83SE_06
  | outPageM83SE_06 (v : Byte)
  | inPageM83SE_07
  | outPageM83SE_07 (v : Byte)
  | inLcdstatM83SE_10
  | outLcdcmdM83SE_10 (v : Byte)
  | inLcddataM83SE_11
  | outLcddataM83SE_11 (v : Byte)
  | inLinkM84P_00
  | outLinkM84P_00 (v : Byte)
  | inKeypadM84P_01
  | outKeypadM84P_01 (v : Byte)
  | inPlainM84P_02
  | outPlainM84P_02 (v : Byte)
  | inControlM84P_03
  | outControlM84P_03 (v : Byte)
  | inStatusM84P_04
  | outMapselM84P_04 (v : Byte)
  | inPageM84P_05
  | outPageM84P_05 (v : Byte)
  | inPageM84P_06
  | outPageM84P_06 (v : Byte)
  | inPageM84P_07
  | outPageM84P_07 (v : Byte)
  | inLcdstatM84P_10
  | outLcdcmdM84P_10 (v : Byte)
  | inLcddataM84P_11
  | outLcddataM84P_11 (v : Byte)
  | inLinkM84SE_00
  | outLinkM84SE_00 (v : Byte)
  | inKeypadM84SE_01
  | outKeypadM84SE_01 (v : Byte)
  | inPlainM84SE_02
  | outPlainM84SE_02 (v : Byte)
  | inControlM84SE_03
  | outControlM84SE_03 (v : Byte)
  | inStatusM84SE_04
  | outMapselM84SE_04 (v : Byte)
  | inPageM84SE_05
  | outPageM84SE_05 (v : Byte)
  | inPageM84SE_06
  | outPageM84SE_06 (v : Byte)
  | inPageM84SE_07
  | outPageM84SE_07 (v : Byte)
  | inLcdstatM84SE_10
  | outLcdcmdM84SE_10 (v : Byte)
  | inLcddataM84SE_11
  | outLcddataM84SE_11 (v : Byte)
  | inUnmapped (tag : BitVec 4) (p : Byte)
  | outUnmapped (tag : BitVec 4) (p : Byte) (v : Byte)
  | memrd (a : Addr)
  | memwr (a : Addr) (v : Byte)
  | tick (h : Bool)
  | reset (m : Byte)
  | hostexit
  | hostkeys (k : Vector Byte 8) (o : Bool)
  deriving DecidableEq, Repr

/-- The interfaces an operation can arrive at. The formats without a bit pattern are told apart by which interface
fired (30_encoding.md R60, R76); `lcdcmd` is an OUT to the LCD command port written as its command byte (R75). -/
inductive Iface where
  | mem | port | lcdcmd | tick | reset | hostexit | hostkeys
  deriving DecidableEq, Repr

/-- An operation as it is presented to the block (00_scope.md R5): a port transaction carries the 8-bit address only,
the model tag is the block's own (30_encoding.md R61, R62). -/
inductive Request where
  | memrd (a : Addr)
  | memwr (a : Addr) (v : Byte)
  | input (p : Byte)
  | output (p : Byte) (v : Byte)
  | lcdcmd (v : Byte)
  | tick (h : Bool)
  | reset (m : Byte)
  | hostexit
  | hostkeys (k : Vector Byte 8) (o : Bool)
  deriving DecidableEq, Repr

/-- Why bytes are not an operation. Raised by `decode` alone; no request that `Request.bytes` forms is rejected, so a
step never stops with one of these. Safe: the spec gives bits outside its formats no meaning. -/
inductive Reject where
  /-- fewer bytes than the interface's format has -/
  | shortWord
  /-- a bit that the format gives no meaning is set -/
  | spareBits
  deriving DecidableEq, Repr

end Sys2Proof
end

