-- ==== Sys2Proof/Machine/State.lean ====
section
/-! DEFINITION. State.lean: the state of the block (10_state.md R10), its two reasons to stop, and the state after
reset. Everything is plain data. -/

namespace Sys2Proof.Machine

/-- The two arenas a window can point into (10_state.md R22 to R24). -/
inductive Arena where
  | rom | ram
  deriving DecidableEq, Repr

/-- A window register: an arena and an offset into it (10_state.md R24). -/
structure Page where
  arena : Arena
  off : Nat
  deriving DecidableEq, Repr

/-- The listed bytes of an arena, indices strictly rising. An unlisted index has no listed value: it reads as the open
parameter `Config.ramInit` or `Config.romImage` (notes/assumptions/5.md, 6.md). -/
abbrev Memory := List Host.Cell

/-- The ROM image the host supplies for a model: its size and the bytes of it that are listed (00_scope.md R8,
70_reset_and_hazards.md R232). -/
structure RomImage where
  size : Nat
  bytes : Memory
  deriving DecidableEq, Repr

/-- The LCD controller (10_state.md R25 to R30). -/
structure Lcd where
  /-- 64 rows of 16 bytes; byte 15 of a row is padding (R25) -/
  buf : Vector (Vector Byte 16) 64
  /-- `DIR` in bits 1:0, `ON` in bit 5, `MODE8` in bit 6 (R26) -/
  status : Byte
  row : BitVec 6
  col : BitVec 5
  delay : Bool
  scroll : BitVec 6
  contrast : BitVec 6
  deriving DecidableEq, Repr

/-- The classification a tick returns (43_tick_sequencer.md R189). -/
inductive TickResult where
  | none | irq | quit
  deriving DecidableEq, Repr

/-- What an operation returns (00_scope.md R5). -/
inductive Result where
  /-- the byte of a MEMRD or an IN -/
  | byte (v : Byte)
  /-- the classification of a TICK -/
  | tick (r : TickResult)
  /-- a RESET the block does not accept (93_implementation_defined.md U2, U14; notes/assumptions/7.md) -/
  | refused
  deriving DecidableEq, Repr

/-- The output strobes (00_scope.md R6). -/
inductive Strobe where
  | refresh
  | colourRecompute (c : Byte)
  deriving DecidableEq, Repr

/-- An operation that waits to be presented, and the level the host drives on UPERIOD from then on, if it changes
(43_tick_sequencer.md R187; notes/assumptions/10.md). -/
structure Pending where
  op : Request
  uperiod : Option Nat
  deriving DecidableEq, Repr

/-- The state of the block (10_state.md R10), its open parameters (00_scope.md R8), and the model's own three fields. -/
structure State where
  /-- `cfg` and `mode` (R10, R35) -/
  model : Model
  /-- R22 -/
  rom : Memory
  /-- R23 -/
  ram : Memory
  /-- `Page[0..3]` (R24) -/
  page : Vector Page 4
  /-- `Ports[0..31]` (R11 to R21) -/
  ports : Vector Byte 32
  /-- R25 to R30 -/
  lcd : Lcd
  /-- `KeyRow[0..7]` (R31) -/
  keyRow : Vector Byte 8
  /-- R31 -/
  onKey : Bool
  /-- R32 -/
  startupOn : Nat
  /-- R33 -/
  exitNow : Bool
  /-- R34 -/
  uCount : Nat
  /-- the level on `UPERIOD` (00_scope.md R6, R8) -/
  uperiod : Nat
  /-- `STARTUP_TICKS` (00_scope.md R8) -/
  startupTicks : Nat
  /-- `LINK_IDLE` (00_scope.md R8) -/
  linkIdle : Byte
  /-- `ROM_IMAGE` of each model (00_scope.md R8) -/
  romImages : Vector RomImage 8
  /-- MODEL's own: the operations still to be presented, in order (notes/assumptions/1.md) -/
  pending : List Pending
  /-- MODEL's own: what the last operation returned (notes/assumptions/2.md) -/
  result : Option Result
  /-- MODEL's own: the strobe the last operation emitted (notes/assumptions/2.md) -/
  strobe : Option Strobe
  deriving DecidableEq, Repr

/-- Why the machine stops with a fault. -/
inductive Fault where
  /-- Raised by MEMRD and MEMWR when the selected window's arena index lies outside its arena. The spec says that this
  never happens (20_memory.md R43): no state that meets `State.Inv` raises it. Safe: the model stops where the spec has
  no byte to give. -/
  | arenaRange
  deriving DecidableEq, Repr

/-- Why an operation has no meaning. -/
inductive Refusal where
  /-- Raised by `exec` for an instruction that has no meaning yet; no arm does. Safe. -/
  | notModelled (mnemonic : String)
  /-- Raised by `step` for bytes that are no operation. The bytes of a request always are one, so no step raises it.
  Safe: the spec has no such bytes. -/
  | undecodable (r : Reject)
  deriving DecidableEq, Repr

/-- The LCD controller after reset (10_state.md R37). -/
def Lcd.reset : Lcd where
  buf := Vector.replicate 64 (Vector.replicate 16 0)
  status := 0x00
  row := 0
  col := 0
  delay := false
  scroll := 0
  contrast := Config.lcdContrastReset

/-- The suggested default of `STARTUP_TICKS` (00_scope.md R8): DESIGN CHOICE, notes/assumptions/8.md. -/
def State.startupTicksDefault : Nat := 50

/-- The suggested default of `LINK_IDLE` (00_scope.md R8): DESIGN CHOICE, notes/assumptions/8.md. -/
def State.linkIdleDefault : Byte := 0x03

/-- The suggested default of `UPERIOD` (92_eei_decisions.md, open parameters): DESIGN CHOICE, notes/assumptions/8.md. -/
def State.uperiodDefault : Nat := 100

/-- An image of the right size for each model, no byte of it listed. -/
def State.openImages : Vector RomImage 8 :=
  #v[⟨0x020000, []⟩, ⟨0x040000, []⟩, ⟨0x020000, []⟩, ⟨0x040000, []⟩,
     ⟨0x080000, []⟩, ⟨0x200000, []⟩, ⟨0x100000, []⟩, ⟨0x200000, []⟩]

/-- The block right after `RESET 0` (10_state.md R37, 70_reset_and_hazards.md R230), before the first HOSTKEYS, with the
spec's suggested defaults for the open parameters. The model index is DESIGN CHOICE (notes/assumptions/8.md). -/
def State.reset : State where
  model := .m85
  rom := []
  ram := []
  page := #v[⟨.rom, 0⟩, ⟨.rom, 0⟩, ⟨.ram, 0⟩, ⟨.ram, 0x4000⟩]
  ports := (Vector.replicate 32 0).set 9 State.linkIdleDefault
  lcd := Lcd.reset
  keyRow := Vector.replicate 8 0xFF
  onKey := false
  startupOn := State.startupTicksDefault
  exitNow := false
  uCount := 0
  uperiod := State.uperiodDefault
  startupTicks := State.startupTicksDefault
  linkIdle := State.linkIdleDefault
  romImages := State.openImages
  pending := []
  result := none
  strobe := none

end Sys2Proof.Machine
end

