-- ==== Sys2Proof/Machine/Flags.lean ====
section
/-! DEFINITION. Flags.lean: every flag of the block (10_state.md R36): the STATUS bits, the low-power pattern, the tick's
result, and the three fields of LCD.status. -/

namespace Sys2Proof.Machine

/-- Status recompute (43_tick_sequencer.md R185): `ON_N`, copies of `VID_IE` and `TMR_IE`, and `ON_IE` with the ON key. -/
def statusByte (control : Byte) (on : Bool) : Byte :=
  (if on then 0x00 else 0x08) ||| (control &&& 0x04) ||| (control &&& 0x02) |||
    (if control.getLsbD 0 && on then 0x01 else 0x00)

/-- The condition of the power-state detector (43_tick_sequencer.md R181), on the counter's value before the tick. -/
def powerOff (control : Byte) (startupOn : Nat) (h : Bool) : Bool :=
  (control &&& Config.lowPowerMask == Config.lowPowerPattern) && startupOn == 0 && h

/-- The ON key as the tick sees it (43_tick_sequencer.md R183), on the counter's value before the tick. -/
def onState (onKey : Bool) (startupOn : Nat) : Bool := onKey || startupOn != 0

/-- Result of the tick (43_tick_sequencer.md R189): QUIT before IRQ before NONE; `ON_N` does not count. -/
def tickResult (exitNow : Bool) (status : Byte) : TickResult :=
  if exitNow then .quit
  else if status &&& Config.irqMask ≠ 0 then .irq
  else .none

/-- `MODE8` (10_state.md R26). -/
def lcdMode8 (status : Byte) : Bool := status.getLsbD 6

/-- `ON` (10_state.md R26). -/
def lcdIsOn (status : Byte) : Bool := status.getLsbD 5

/-- `DIR` (10_state.md R26). -/
def lcdDir (status : Byte) : BitVec 2 := status.extractLsb' 0 2

/-- `LCD.status[6] <- b` (42_lcd.md R147, R148). -/
def withMode8 (status : Byte) (b : Bool) : Byte := (status &&& 0xBF) ||| (if b then 0x40 else 0x00)

/-- `LCD.status[5] <- b` (42_lcd.md R149, R150). -/
def withOn (status : Byte) (b : Bool) : Byte := (status &&& 0xDF) ||| (if b then 0x20 else 0x00)

/-- `LCD.status[1:0] <- d` (42_lcd.md R151 to R154). -/
def withDir (status : Byte) (d : BitVec 2) : Byte := (status &&& 0xFC) ||| d.setWidth 8

/-- The boundary column of the mode: 14 in 8-bit mode, 19 in 6-bit mode (42_lcd.md R157). -/
def boundary (status : Byte) : BitVec 5 := if lcdMode8 status then Config.colMax8 else Config.colMax6

end Sys2Proof.Machine
end

