-- ==== Sys2Proof/Machine/Operands.lean ====
section
/-! DEFINITION. Operands.lean: the operand forms of the block (30_encoding.md R78, R79): the window and offset of a memory
address, the register class of a port address, the page fields of the banking registers, and the 6-bit column of the
LCD cursor. -/

namespace Sys2Proof.Machine

/-- The window a memory address selects: `a[15:14]` (20_memory.md R41). -/
def windowOf (a : Addr) : BitVec 2 := a.extractLsb' 14 2

/-- The offset of a memory address inside its window: `a[13:0]` (20_memory.md R41). -/
def offsetOf (a : Addr) : Nat := (a.extractLsb' 0 14).toNat

/-- The unsigned field `v[lo+len-1:lo]` of a register (00_scope.md R9). -/
def field (v : Byte) (lo len : Nat) : Nat := (v.extractLsb' lo len).toNat

/-- The register classes of port addresses (41_port_dispatch.md R101), with the register-file index where the class has
one of its own choosing. -/
inductive PortClass where
  | plain (i : Fin 32)
  | keypad
  | statctl
  | control
  | mapstat
  | contrast
  | link (i : Fin 32)
  | page (i : Fin 32)
  | lcdcmd
  | lcddata
  | unmapped
  deriving DecidableEq, Repr

/-- The column of 41_port_dispatch.md R101 for M85. -/
def classM85 (p : Byte) : PortClass :=
  match p with
  | 0x00 => .plain 0
  | 0x01 => .keypad
  | 0x02 => .contrast
  | 0x03 => .statctl
  | 0x04 => .plain 4
  | 0x05 => .page 5
  | 0x06 => .plain 6
  | 0x07 => .link 7
  | _ => .unmapped

/-- The column of R101 for M86. -/
def classM86 (p : Byte) : PortClass :=
  match p with
  | 0x00 => .plain 0
  | 0x01 => .keypad
  | 0x02 => .contrast
  | 0x03 => .statctl
  | 0x04 => .plain 4
  | 0x05 => .page 5
  | 0x06 => .page 6
  | 0x07 => .link 7
  | _ => .unmapped

/-- The column of R101 for M82. -/
def classM82 (p : Byte) : PortClass :=
  match p with
  | 0x00 => .link 0
  | 0x01 => .keypad
  | 0x02 => .page 2
  | 0x03 => .statctl
  | 0x04 => .plain 4
  | 0x05 => .plain 5
  | 0x06 => .plain 6
  | 0x07 => .plain 7
  | 0x10 => .lcdcmd
  | 0x11 => .lcddata
  | _ => .unmapped

/-- The column of R101 for M83. -/
def classM83 (p : Byte) : PortClass :=
  match p with
  | 0x00 => .link 0
  | 0x01 => .keypad
  | 0x02 => .page 2
  | 0x03 => .statctl
  | 0x04 => .page 4
  | 0x05 => .plain 5
  | 0x06 => .plain 6
  | 0x07 => .plain 7
  | 0x10 => .lcdcmd
  | 0x11 => .lcddata
  | _ => .unmapped

/-- The column of R101 for M83P. -/
def classM83P (p : Byte) : PortClass :=
  match p with
  | 0x00 => .link 0
  | 0x01 => .keypad
  | 0x02 => .plain 2
  | 0x03 => .control
  | 0x04 => .mapstat
  | 0x05 => .plain 5
  | 0x06 => .page 6
  | 0x07 => .page 7
  | 0x10 => .lcdcmd
  | 0x11 => .lcddata
  | _ => .unmapped

/-- The column of R101 for M83SE, M84P and M84SE. -/
def classExpanded (p : Byte) : PortClass :=
  match p with
  | 0x00 => .link 0
  | 0x01 => .keypad
  | 0x02 => .plain 2
  | 0x03 => .control
  | 0x04 => .mapstat
  | 0x05 => .page 10
  | 0x06 => .page 6
  | 0x07 => .page 7
  | 0x10 => .lcdcmd
  | 0x11 => .lcddata
  | _ => .unmapped

/-- The register class of a port address on a model (41_port_dispatch.md R101, 30_encoding.md R63): a function of the model
and the address alone. -/
def portClass (m : Model) (p : Byte) : PortClass :=
  match m with
  | .m85 => classM85 p
  | .m86 => classM86 p
  | .m82 => classM82 p
  | .m83 => classM83 p
  | .m83p => classM83P p
  | .m83se => classExpanded p
  | .m84p => classExpanded p
  | .m84se => classExpanded p

/-- The first buffer byte of a 6-bit column: `(6 × c) >> 3` (42_lcd.md R159). -/
def colByte (c : BitVec 5) : Nat := 6 * c.toNat / 8

/-- The bit offset of a 6-bit column in its first byte: `(6 × c) & 7` (42_lcd.md R159). -/
def colShift (c : BitVec 5) : Nat := 6 * c.toNat % 8

end Sys2Proof.Machine
end

