-- ==== Sys2Proof/Machine/Mapper.lean ====
section
/-! DEFINITION. Mapper.lean: the memory bank mapper, `Map(cfg, Ports)` (40_mapper.md R80 to R90). -/

namespace Sys2Proof.Machine

/-- The offset of a page in an arena of this size: `(page × 0x4000) & (size - 1)` (40_mapper.md R83). -/
def pageOff (page size : Nat) : Nat := (page * Config.windowSize) &&& (size - 1)

/-- `rom(page)` (40_mapper.md R83). -/
def romPage (c : Cfg) (page : Nat) : Page := ⟨.rom, pageOff page c.romSize⟩

/-- `ram(page)` (40_mapper.md R83). -/
def ramPage (c : Cfg) (page : Nat) : Page := ⟨.ram, pageOff page c.ramSize⟩

/-- Family A, fixed window (40_mapper.md R84): `g` is the ROM page register. -/
def mapA (c : Cfg) (g : Byte) : Vector Page 4 :=
  #v[romPage c 0, romPage c (field g 0 4), ramPage c 0, ramPage c 1]

/-- Page selection of Family B (40_mapper.md R85): bit 6 picks RAM. -/
def selB (c : Cfg) (g : Byte) : Page :=
  if g.getLsbD 6 then ramPage c (field g 0 3) else romPage c (field g 0 4)

/-- Family B, dual swappable ROM/RAM (40_mapper.md R85). -/
def mapB (c : Cfg) (g1 g2 : Byte) : Vector Page 4 :=
  #v[romPage c 0, selB c g1, selB c g2, ramPage c 0]

/-- Family C, three-register composite (40_mapper.md R86): `l` link+memory, `p` page, `cm` map select. -/
def mapC (c : Cfg) (l p cm : Byte) : Vector Page 4 :=
  let q := 8 * field l 4 1 + field p 0 3
  let m := cm.getLsbD 0
  #v[romPage c 0,
     if m then ramPage c 0 else romPage c q,
     if !p.getLsbD 7 then ramPage c 1 else if !m then romPage c q else romPage c (field p 0 3),
     ramPage c 0]

/-- Page selection of Family D (40_mapper.md R88): bit `b` picks RAM, the bits below it are the page. -/
def selD (c : Cfg) (b : Nat) (g : Byte) : Page :=
  if g.getLsbD b then ramPage c (field g 0 b) else romPage c (field g 0 b)

/-- Family D, flat paged (40_mapper.md R89 for map state 0, R90 for map state 1). -/
def mapD (c : Cfg) (b : Nat) (mapSel ga gb gc : Byte) : Vector Page 4 :=
  if mapSel.getLsbD 0 then
    #v[romPage c 0, selD c b (ga &&& 0xFE), selD c b (ga ||| 0x01), selD c b gb]
  else
    #v[romPage c 0, selD c b ga, selD c b gb, ramPage c gc.toNat]

/-- `Map(cfg, Ports)` (40_mapper.md R81): a pure function of the configuration and the register file (R82). -/
def mapPages (c : Cfg) (ports : Vector Byte 32) : Vector Page 4 :=
  match c.family with
  | .A i => mapA c ports[i]
  | .B => mapB c ports[5] ports[6]
  | .C => mapC c ports[0] ports[2] ports[4]
  | .D b _ => mapD c b ports[4] ports[6] ports[7] ports[10]

end Sys2Proof.Machine
end

