-- ==== Sys2Proof/Machine/Ops.lean ====
section
/-! DEFINITION. Ops.lean: the named operations over memory, the register file and the outputs, and the reset of the
block. The block raises no exception and has no return from one (60_exceptions.md R200, R206, R207): there is no
exception entry here. -/

namespace Sys2Proof.Machine

/-- What an operation answers. -/
abbrev Answer := Host.Outcome State Fault Refusal

/-- The listed byte at an index. -/
def Memory.read : Memory → Nat → Option Byte
  | [], _ => none
  | (a, v) :: m, i => if i = a then some v else Memory.read m i

/-- The memory with the byte at an index listed as `v`: the one canonical list that says so. -/
def Memory.write : Memory → Nat → Byte → Memory
  | [], i, v => [(i, v)]
  | (a, w) :: m, i, v =>
    if i < a then (i, v) :: (a, w) :: m
    else if i = a then (i, v) :: m
    else (a, w) :: Memory.write m i v

/-- The canonical form: indices strictly rising. An unlisted index has no listed value, so no entry can equal it. -/
def Memory.wf : Memory → Bool
  | [] => true
  | [_] => true
  | (a, _) :: (b, w) :: m => decide (a < b) && Memory.wf ((b, w) :: m)

/-- `Ports[i]` (00_scope.md R9). -/
def State.port (s : State) (i : Fin 32) : Byte := s.ports[i]

/-- `Ports[i] <- v` (00_scope.md R9). -/
def State.setPort (s : State) (i : Fin 32) (v : Byte) : State := { s with ports := s.ports.set i v }

/-- `Remap()` (40_mapper.md R81): all four windows from the complete current register file. -/
def State.remap (s : State) : State := { s with page := mapPages s.model.cfg s.ports }

/-- The LCD controller replaced. -/
def State.setLcd (s : State) (l : Lcd) : State := { s with lcd := l }

/-- One byte of RAM written. -/
def State.writeRam (s : State) (i : Nat) (v : Byte) : State := { s with ram := Memory.write s.ram i v }

/-- The outputs of an operation: what it returns and the strobe it emits (00_scope.md R5, R6). Each operation gives both. -/
def State.answer (s : State) (r : Option Result) (e : Option Strobe) : State :=
  { s with result := r, strobe := e }

/-- The byte of ROM at an index: `ROM_IMAGE` (10_state.md R22), the open parameter where the image lists nothing. -/
def State.romByte (s : State) (i : Nat) : Byte := (Memory.read s.rom i).getD (Config.romImage s.model i)

/-- The byte of RAM at an index: the last byte written, or `RAM_INIT` (10_state.md R23, 20_memory.md R50). -/
def State.ramByte (s : State) (i : Nat) : Byte := (Memory.read s.ram i).getD (Config.ramInit s.model i)

/-- `size(arena)` (40_mapper.md R83). -/
def arenaSize (c : Cfg) : Arena → Nat
  | .rom => c.romSize
  | .ram => c.ramSize

/-- The byte of an arena at an index. -/
def State.arenaByte (s : State) (k : Arena) (i : Nat) : Byte :=
  match k with
  | .rom => s.romByte i
  | .ram => s.ramByte i

/-- The window register of a memory address (20_memory.md R41). -/
def State.pageOf (s : State) (a : Addr) : Page := s.page[(windowOf a).toNat]'(windowOf a).isLt

/-- The arena index of a memory address: `off + o` (20_memory.md R43). -/
def State.arenaIndex (s : State) (a : Addr) : Nat := (s.pageOf a).off + offsetOf a

/-- Does the arena index lie in its arena? 20_memory.md R43 says that it always does. -/
def State.inArena (s : State) (a : Addr) : Bool :=
  decide (s.arenaIndex a < arenaSize s.model.cfg (s.pageOf a).arena)

/-- The byte that a memory address shows (20_memory.md R44): the model's read of one byte. -/
def State.peek (s : State) (a : Addr) : Byte := s.arenaByte (s.pageOf a).arena (s.arenaIndex a)

/-- The ROM image of a model. -/
def State.imageOf (s : State) (m : Model) : RomImage := s.romImages[m.index]

/-- The register file after reset (10_state.md R37): zero but for `LINKRD`. -/
def resetPorts (linkIdle : Byte) : Vector Byte 32 := (Vector.replicate 32 0).set 9 linkIdle

/-- The reset of the block to a model (70_reset_and_hazards.md R230). The host's inputs and the open parameters stay
(10_state.md R37), and so do the operations not yet presented. -/
def State.resetTo (s : State) (m : Model) : State :=
  State.remap
    { s with
      model := m
      rom := (s.imageOf m).bytes
      ram := []
      ports := resetPorts s.linkIdle
      lcd := Lcd.reset
      startupOn := s.startupTicks
      exitNow := false
      uCount := 0 }

end Sys2Proof.Machine
end

