-- ==== Sys2Proof/Machine/Events.lean ====
section
/-! DEFINITION. Events.lean: RESET, HOSTEXIT and HOSTKEYS (70_reset_and_hazards.md R230, 43_tick_sequencer.md R190,
10_state.md R31). -/

namespace Sys2Proof.Machine

/-- Is the model's image of the size its configuration asks for (70_reset_and_hazards.md R232)? -/
def State.imageFits (s : State) (m : Model) : Bool := (s.imageOf m).size == m.cfg.romSize

/-- `RESET m` (70_reset_and_hazards.md R230). An index above 7 or an image of the wrong size is not accepted: the block
stays as it was (R233; 93_implementation_defined.md U2, U14; notes/assumptions/7.md). -/
def execReset (m : Byte) (s : State) : Answer :=
  match Model.ofIndex m.toNat with
  | some k => .next (if s.imageFits k then (s.resetTo k).answer none none else s.answer (some .refused) none)
  | none => .next (s.answer (some .refused) none)

/-- `HOSTEXIT` (43_tick_sequencer.md R190): no effect but the flag until the next tick. -/
def execHostexit (s : State) : Answer := .next (({ s with exitNow := true }).answer none none)

/-- `HOSTKEYS k, o` (10_state.md R31). -/
def execHostkeys (k : Vector Byte 8) (o : Bool) (s : State) : Answer :=
  .next (({ s with keyRow := k, onKey := o }).answer none none)

end Sys2Proof.Machine
end

