-- ==== Sys2Proof/Machine/Lcd.lean ====
section
/-! DEFINITION. Lcd.lean: the LCD controller's shared operations (42_lcd.md): the cursor, the 6-bit packing, the data read
and write, the twelve command effects and the command decode. -/

namespace Sys2Proof.Machine

/-- `LCD.buf[r][b]`. Every use has `b ≤ 15` (42_lcd.md R159), so the default is never taken. -/
def Lcd.byteAt (l : Lcd) (r : BitVec 6) (b : Nat) : Byte := ((l.buf[r.toNat]'r.isLt)[b]?).getD 0

/-- `LCD.buf[r][b] <- v`. -/
def Lcd.setByte (l : Lcd) (r : BitVec 6) (b : Nat) (v : Byte) : Lcd :=
  { l with buf := l.buf.set r.toNat ((l.buf[r.toNat]'r.isLt).setIfInBounds b v) r.isLt }

/-- The big-endian working word of a 6-bit column (42_lcd.md R159). -/
def Lcd.word (l : Lcd) (r : BitVec 6) (c : BitVec 5) : BitVec 16 :=
  l.byteAt r (colByte c) ++ l.byteAt r (colByte c + 1)

/-- `Extract6(r, c)` (42_lcd.md R159). -/
def Lcd.extract6 (l : Lcd) (r : BitVec 6) (c : BitVec 5) : BitVec 6 :=
  (l.word r c >>> (10 - colShift c)).setWidth 6

/-- The working word with the field of a column replaced (42_lcd.md R159). -/
def insertWord (w : BitVec 16) (shift : Nat) (u : BitVec 6) : BitVec 16 :=
  (w &&& ~~~(0x003F#16 <<< (10 - shift))) ||| (u.setWidth 16 <<< (10 - shift))

/-- `Insert6(r, c, u)` (42_lcd.md R159): exactly the six addressed bits change. -/
def Lcd.insert6 (l : Lcd) (r : BitVec 6) (c : BitVec 5) (u : BitVec 6) : Lcd :=
  let w := insertWord (l.word r c) (colShift c) u
  (l.setByte r (colByte c) (w.extractLsb' 8 8)).setByte r (colByte c + 1) (w.extractLsb' 0 8)

/-- The column after a decrement: masked to 5 bits, clamped to the boundary (42_lcd.md R157). -/
def colDec (b c : BitVec 5) : BitVec 5 := if b < c - 1 then b else c - 1

/-- The column after an increment: masked to 5 bits, 0 past the boundary (42_lcd.md R157). -/
def colInc (b c : BitVec 5) : BitVec 5 := if b < c + 1 then 0 else c + 1

/-- `Advance()` (42_lcd.md R157; one step for reads and writes, 90_conflicts.md C1). -/
def Lcd.advance (l : Lcd) : Lcd :=
  if lcdDir l.status = 0 then { l with row := l.row - 1 }
  else if lcdDir l.status = 1 then { l with row := l.row + 1 }
  else if lcdDir l.status = 2 then { l with col := colDec (boundary l.status) l.col }
  else { l with col := colInc (boundary l.status) l.col }

/-- Is the cursor's column within the boundary of the mode? -/
def Lcd.inRange (l : Lcd) : Bool := decide (l.col ≤ boundary l.status)

/-- The datum under the cursor (42_lcd.md R155): 0 beyond the boundary; 6 bits in the low bits of the byte. -/
def Lcd.datum (l : Lcd) : Byte :=
  if l.inRange then
    if lcdMode8 l.status then l.byteAt l.row l.col.toNat else (l.extract6 l.row l.col).setWidth 8
  else 0x00

/-- The buffer after a datum is stored under the cursor (42_lcd.md R156): no byte changes beyond the boundary
(90_conflicts.md C3). -/
def Lcd.store (l : Lcd) (v : Byte) : Lcd :=
  if l.inRange then
    if lcdMode8 l.status then l.setByte l.row l.col.toNat v else l.insert6 l.row l.col (v.extractLsb' 0 6)
  else l

/-- `LCD.delay <- 1`, the end of every command (42_lcd.md R142). -/
def Lcd.arm (l : Lcd) : Lcd := { l with delay := true }

/-- `LCD.RD` (42_lcd.md R155): an armed delay flag is consumed and 0 returned, else the datum and a step. -/
def lcdRead (s : State) : State :=
  if s.lcd.delay then (s.setLcd { s.lcd with delay := false }).answer (some (.byte 0x00)) none
  else (s.setLcd s.lcd.advance).answer (some (.byte s.lcd.datum)) none

/-- `LCD.WR v` (42_lcd.md R156): the delay flag is neither tested nor changed. -/
def lcdWrite (v : Byte) (s : State) : State := (s.setLcd (s.lcd.store v).advance).answer none none

/-- The effect of `LCD.SETCONTRAST` (42_lcd.md R146). -/
def cmdSetContrast (c : BitVec 6) (s : State) : State :=
  (s.setLcd ({ s.lcd with contrast := c }).arm).answer none (some (.colourRecompute (c.setWidth 8)))

/-- The effect of `LCD.SETROW` (42_lcd.md R143). -/
def cmdSetRow (r : BitVec 6) (s : State) : State := (s.setLcd ({ s.lcd with row := r }).arm).answer none none

/-- The effect of `LCD.SETSCROLL` (42_lcd.md R144). -/
def cmdSetScroll (z : BitVec 6) (s : State) : State := (s.setLcd ({ s.lcd with scroll := z }).arm).answer none none

/-- The effect of `LCD.SETCOL` (42_lcd.md R145), for the low five bits of the command byte. -/
def cmdSetCol (b : BitVec 5) (s : State) : State :=
  (s.setLcd ({ s.lcd with col := b &&& Config.colSetMask }).arm).answer none none

/-- The effect of `LCD.MODE6` and `LCD.MODE8` (42_lcd.md R147, R148). -/
def cmdMode (b : Bool) (s : State) : State :=
  (s.setLcd ({ s.lcd with status := withMode8 s.lcd.status b }).arm).answer none none

/-- The effect of `LCD.OFF` and `LCD.ON` (42_lcd.md R149, R150). -/
def cmdPower (b : Bool) (s : State) : State :=
  (s.setLcd ({ s.lcd with status := withOn s.lcd.status b }).arm).answer none none

/-- The effect of the four `LCD.DIR` commands (42_lcd.md R151 to R154). -/
def cmdDir (d : BitVec 2) (s : State) : State :=
  (s.setLcd ({ s.lcd with status := withDir s.lcd.status d }).arm).answer none none

/-- The command a byte stands for, executed: the thresholds tested from the top, then the 3-bit opcode (42_lcd.md R141,
30_encoding.md R65 to R68). -/
def lcdCommand (v : Byte) (s : State) : State :=
  if 0xC0 ≤ v then cmdSetContrast (v.extractLsb' 0 6) s
  else if 0x80 ≤ v then cmdSetRow (v.extractLsb' 0 6) s
  else if 0x40 ≤ v then cmdSetScroll (v.extractLsb' 0 6) s
  else if 0x20 ≤ v then cmdSetCol (v.extractLsb' 0 5) s
  else
    match v.extractLsb' 0 3 with
    | 0 => cmdMode false s
    | 1 => cmdMode true s
    | 2 => cmdPower false s
    | 3 => cmdPower true s
    | 4 => cmdDir 0 s
    | 5 => cmdDir 1 s
    | 6 => cmdDir 2 s
    | _ => cmdDir 3 s

end Sys2Proof.Machine
end

