-- ==== Sys2Proof/Machine/Ports.lean ====
section
/-! DEFINITION. Ports.lean: the read and write behaviour of every register class (41_port_dispatch.md R103 to R119) and
the three-step dispatch of a port transaction (R100). -/

namespace Sys2Proof.Machine

/-- An operation that returns a byte and changes nothing else (41_port_dispatch.md R120). -/
def State.giveByte (s : State) (v : Byte) : State := s.answer (some (.byte v)) none

/-- `IN.PLAIN` (41_port_dispatch.md R103). -/
def readPlain (i : Fin 32) (s : State) : State := s.giveByte (s.port i)

/-- `OUT.PLAIN` (41_port_dispatch.md R104). -/
def writePlain (i : Fin 32) (v : Byte) (s : State) : State := (s.setPort i v).answer none none

/-- The keypad scan (41_port_dispatch.md R106): the AND of the row bytes whose select bit is 0. -/
def keyScan (sel : Byte) (rows : Vector Byte 8) : Byte :=
  (List.finRange 8).foldl (fun (r : Byte) (i : Fin 8) => if sel.getLsbD i.val then r else r &&& rows[i]) 0xFF

/-- `IN.KEYPAD` (41_port_dispatch.md R106). -/
def readKeypad (s : State) : State := s.giveByte (keyScan (s.port 1) s.keyRow)

/-- `OUT.KEYPAD` (41_port_dispatch.md R105). -/
def writeKeypad (v : Byte) (s : State) : State := (s.setPort 1 v).answer none none

/-- `IN.STATUS` (41_port_dispatch.md R107): nothing is acknowledged. -/
def readStatus (s : State) : State := s.giveByte (s.port 8)

/-- `OUT.CONTROL` (41_port_dispatch.md R108). -/
def writeControl (v : Byte) (s : State) : State := (s.setPort 3 v).answer none none

/-- `IN.CONTROL` (41_port_dispatch.md R109). -/
def readControl (s : State) : State := s.giveByte (s.port 3)

/-- `OUT.MAPSEL` (41_port_dispatch.md R110). -/
def writeMapsel (v : Byte) (s : State) : State := (s.setPort 4 v).remap.answer none none

/-- `OUT.CONTRAST` (41_port_dispatch.md R111). -/
def writeContrast (v : Byte) (s : State) : State := (s.setPort 2 v).answer none (some (.colourRecompute v))

/-- `IN.CONTRAST` (41_port_dispatch.md R111). -/
def readContrast (s : State) : State := s.giveByte (s.port 2)

/-- `IN.LINK` (41_port_dispatch.md R112): the link read register, not the byte written. -/
def readLink (s : State) : State := s.giveByte (s.port 9)

/-- `OUT.LINK` (41_port_dispatch.md R113): a banking register on M83 alone. -/
def writeLink (i : Fin 32) (v : Byte) (s : State) : State :=
  (if s.model = .m83 then (s.setPort i v).remap else s.setPort i v).answer none none

/-- `OUT.PAGE` (41_port_dispatch.md R114). -/
def writePage (i : Fin 32) (v : Byte) (s : State) : State := (s.setPort i v).remap.answer none none

/-- `IN.PAGE` (41_port_dispatch.md R115). -/
def readPage (i : Fin 32) (s : State) : State := s.giveByte (s.port i)

/-- `IN.LCDSTAT` (41_port_dispatch.md R117, 42_lcd.md R160). -/
def readLcdStat (s : State) : State := s.giveByte s.lcd.status

/-- `OUT.LCDCMD` (41_port_dispatch.md R117, 42_lcd.md R141). -/
def writeLcdCmd (v : Byte) (s : State) : State := lcdCommand v s

/-- `IN.LCDDATA` (41_port_dispatch.md R117, 42_lcd.md R155). -/
def readLcdData (s : State) : State := lcdRead s

/-- `OUT.LCDDATA` (41_port_dispatch.md R117, 42_lcd.md R156). -/
def writeLcdData (v : Byte) (s : State) : State := lcdWrite v s

/-- `IN.UNMAPPED` (41_port_dispatch.md R118). -/
def readUnmapped (s : State) : State := s.giveByte Config.noDevice

/-- `OUT.UNMAPPED` (41_port_dispatch.md R119). -/
def writeUnmapped (s : State) : State := s.answer none none

/-- `IN p` by the three steps of 41_port_dispatch.md R100. -/
def portRead (p : Byte) (s : State) : State :=
  match portClass s.model p with
  | .plain i => readPlain i s
  | .keypad => readKeypad s
  | .statctl => readStatus s
  | .control => readControl s
  | .mapstat => readStatus s
  | .contrast => readContrast s
  | .link _ => readLink s
  | .page i => readPage i s
  | .lcdcmd => readLcdStat s
  | .lcddata => readLcdData s
  | .unmapped => readUnmapped s

/-- `OUT p, v` by the three steps of 41_port_dispatch.md R100. -/
def portWrite (p v : Byte) (s : State) : State :=
  match portClass s.model p with
  | .plain i => writePlain i v s
  | .keypad => writeKeypad v s
  | .statctl => writeControl v s
  | .control => writeControl v s
  | .mapstat => writeMapsel v s
  | .contrast => writeContrast v s
  | .link i => writeLink i v s
  | .page i => writePage i v s
  | .lcdcmd => writeLcdCmd v s
  | .lcddata => writeLcdData v s
  | .unmapped => writeUnmapped s

/-- A full-key IN row: its class's read while the model is the row's. On another model the row's key cannot arise and
the transaction is the IN of the same address there (notes/assumptions/3.md). -/
def inOn (m : Model) (p : Byte) (read : State → State) (s : State) : Answer :=
  .next (if s.model = m then read s else portRead p s)

/-- A full-key OUT row: its class's write while the model is the row's. On another model the row's key cannot arise and
the transaction is the OUT to the same address there (notes/assumptions/3.md). -/
def outOn (m : Model) (p v : Byte) (write : Byte → State → State) (s : State) : Answer :=
  .next (if s.model = m then write v s else portWrite p v s)

/-- An LCD command: it stands for `OUT 0x10, v` (30_encoding.md R75), which on a model without LCD controller is an
unmapped write (42_lcd.md R140; notes/assumptions/4.md). -/
def onLcdc (command : State → State) (s : State) : Answer :=
  .next (if s.model.cfg.hasLcdc then command s else writeUnmapped s)

/-- `IN.UNMAPPED` (41_port_dispatch.md R118). With an address that the active model maps, or another model's tag, the
transaction is the IN of that address on the active model (notes/assumptions/3.md). -/
def execInUnmapped (tag : BitVec 4) (p : Byte) (s : State) : Answer :=
  .next (if tag = s.model.cfg.tag.extractLsb' 8 4 ∧ portClass s.model p = .unmapped then readUnmapped s else portRead p s)

/-- `OUT.UNMAPPED` (41_port_dispatch.md R119); other addresses and tags as for `execInUnmapped`. -/
def execOutUnmapped (tag : BitVec 4) (p v : Byte) (s : State) : Answer :=
  .next (if tag = s.model.cfg.tag.extractLsb' 8 4 ∧ portClass s.model p = .unmapped then writeUnmapped s else portWrite p v s)

end Sys2Proof.Machine
end

