-- ==== Sys2Proof/Machine/LcdCommands.lean ====
section
/-! DEFINITION. LcdCommands.lean: the meanings of the twelve LCD commands (42_lcd.md R143 to R154). The operands `x` are
the bits that 30_encoding.md R68 says are ignored. -/

namespace Sys2Proof.Machine

/-- `LCD.SETCONTRAST c` (42_lcd.md R146). -/
def execLcdSetcontrast (c : BitVec 6) (s : State) : Answer := onLcdc (cmdSetContrast c) s

/-- `LCD.SETROW r` (42_lcd.md R143). -/
def execLcdSetrow (r : BitVec 6) (s : State) : Answer := onLcdc (cmdSetRow r) s

/-- `LCD.SETSCROLL z` (42_lcd.md R144). -/
def execLcdSetscroll (z : BitVec 6) (s : State) : Answer := onLcdc (cmdSetScroll z) s

/-- `LCD.SETCOL y` (42_lcd.md R145). -/
def execLcdSetcol (x : BitVec 1) (y : BitVec 4) (s : State) : Answer := onLcdc (cmdSetCol (x ++ y)) s

/-- `LCD.MODE6` (42_lcd.md R147). -/
def execLcdMode6 (_x : BitVec 2) (s : State) : Answer := onLcdc (cmdMode false) s

/-- `LCD.MODE8` (42_lcd.md R148). -/
def execLcdMode8 (_x : BitVec 2) (s : State) : Answer := onLcdc (cmdMode true) s

/-- `LCD.OFF` (42_lcd.md R149). -/
def execLcdOff (_x : BitVec 2) (s : State) : Answer := onLcdc (cmdPower false) s

/-- `LCD.ON` (42_lcd.md R150). -/
def execLcdOn (_x : BitVec 2) (s : State) : Answer := onLcdc (cmdPower true) s

/-- `LCD.DIR.ROWDEC` (42_lcd.md R151). -/
def execLcdDirRowdec (_x : BitVec 2) (s : State) : Answer := onLcdc (cmdDir 0) s

/-- `LCD.DIR.ROWINC` (42_lcd.md R152). -/
def execLcdDirRowinc (_x : BitVec 2) (s : State) : Answer := onLcdc (cmdDir 1) s

/-- `LCD.DIR.COLDEC` (42_lcd.md R153). -/
def execLcdDirColdec (_x : BitVec 2) (s : State) : Answer := onLcdc (cmdDir 2) s

/-- `LCD.DIR.COLINC` (42_lcd.md R154). -/
def execLcdDirColinc (_x : BitVec 2) (s : State) : Answer := onLcdc (cmdDir 3) s

end Sys2Proof.Machine
end

