-- ==== Sys2Proof/Machine/Mem.lean ====
section
/-! DEFINITION. Mem.lean: the meanings of the memory port's operations (20_memory.md R44, R45). -/

namespace Sys2Proof.Machine

/-- `MEMRD a` (20_memory.md R44). The fault is for an arena index the spec says cannot occur (R43;
notes/assumptions/17.md). -/
def execMemrd (a : Addr) (s : State) : Answer :=
  if s.inArena a then .next (s.answer (some (.byte (s.peek a))) none) else .fault .arenaRange

/-- `MEMWR a, v` (20_memory.md R45): a write through a ROM window is discarded. -/
def execMemwr (a : Addr) (v : Byte) (s : State) : Answer :=
  match (s.pageOf a).arena with
  | .rom => .next (s.answer none none)
  | .ram => if s.inArena a then .next ((s.writeRam (s.arenaIndex a) v).answer none none) else .fault .arenaRange

end Sys2Proof.Machine
end

