-- ==== Sys2Proof/Machine/PortsM82.lean ====
section
/-! DEFINITION. PortsM82.lean: the meanings of the port rows of model M82 (41_port_dispatch.md R101, column M82). -/

namespace Sys2Proof.Machine

/-- `IN.LINK` at port 0x00 of M82 (41_port_dispatch.md R112). -/
def execInLinkM82_00 (s : State) : Answer := inOn .m82 0x00 readLink s

/-- `OUT.LINK` at port 0x00 of M82 (41_port_dispatch.md R113). -/
def execOutLinkM82_00 (v : Byte) (s : State) : Answer := outOn .m82 0x00 v (writeLink 0) s

/-- `IN.KEYPAD` at port 0x01 of M82 (41_port_dispatch.md R106). -/
def execInKeypadM82_01 (s : State) : Answer := inOn .m82 0x01 readKeypad s

/-- `OUT.KEYPAD` at port 0x01 of M82 (41_port_dispatch.md R105). -/
def execOutKeypadM82_01 (v : Byte) (s : State) : Answer := outOn .m82 0x01 v writeKeypad s

/-- `IN.PAGE` at port 0x02 of M82 (41_port_dispatch.md R115). -/
def execInPageM82_02 (s : State) : Answer := inOn .m82 0x02 (readPage 2) s

/-- `OUT.PAGE` at port 0x02 of M82 (41_port_dispatch.md R114). -/
def execOutPageM82_02 (v : Byte) (s : State) : Answer := outOn .m82 0x02 v (writePage 2) s

/-- `IN.STATUS` at port 0x03 of M82 (41_port_dispatch.md R107). -/
def execInStatusM82_03 (s : State) : Answer := inOn .m82 0x03 readStatus s

/-- `OUT.CONTROL` at port 0x03 of M82 (41_port_dispatch.md R108). -/
def execOutControlM82_03 (v : Byte) (s : State) : Answer := outOn .m82 0x03 v writeControl s

/-- `IN.PLAIN` at port 0x04 of M82 (41_port_dispatch.md R103). -/
def execInPlainM82_04 (s : State) : Answer := inOn .m82 0x04 (readPlain 4) s

/-- `OUT.PLAIN` at port 0x04 of M82 (41_port_dispatch.md R104). -/
def execOutPlainM82_04 (v : Byte) (s : State) : Answer := outOn .m82 0x04 v (writePlain 4) s

/-- `IN.PLAIN` at port 0x05 of M82 (41_port_dispatch.md R103). -/
def execInPlainM82_05 (s : State) : Answer := inOn .m82 0x05 (readPlain 5) s

/-- `OUT.PLAIN` at port 0x05 of M82 (41_port_dispatch.md R104). -/
def execOutPlainM82_05 (v : Byte) (s : State) : Answer := outOn .m82 0x05 v (writePlain 5) s

/-- `IN.PLAIN` at port 0x06 of M82 (41_port_dispatch.md R103). -/
def execInPlainM82_06 (s : State) : Answer := inOn .m82 0x06 (readPlain 6) s

/-- `OUT.PLAIN` at port 0x06 of M82 (41_port_dispatch.md R104). -/
def execOutPlainM82_06 (v : Byte) (s : State) : Answer := outOn .m82 0x06 v (writePlain 6) s

/-- `IN.PLAIN` at port 0x07 of M82 (41_port_dispatch.md R103). -/
def execInPlainM82_07 (s : State) : Answer := inOn .m82 0x07 (readPlain 7) s

/-- `OUT.PLAIN` at port 0x07 of M82 (41_port_dispatch.md R104). -/
def execOutPlainM82_07 (v : Byte) (s : State) : Answer := outOn .m82 0x07 v (writePlain 7) s

/-- `IN.LCDSTAT` at port 0x10 of M82 (42_lcd.md R160). -/
def execInLcdstatM82_10 (s : State) : Answer := inOn .m82 0x10 readLcdStat s

/-- `OUT.LCDCMD` at port 0x10 of M82 (42_lcd.md R141). -/
def execOutLcdcmdM82_10 (v : Byte) (s : State) : Answer := outOn .m82 0x10 v writeLcdCmd s

/-- `IN.LCDDATA` at port 0x11 of M82 (42_lcd.md R155). -/
def execInLcddataM82_11 (s : State) : Answer := inOn .m82 0x11 readLcdData s

/-- `OUT.LCDDATA` at port 0x11 of M82 (42_lcd.md R156). -/
def execOutLcddataM82_11 (v : Byte) (s : State) : Answer := outOn .m82 0x11 v writeLcdData s

end Sys2Proof.Machine
end

