-- ==== Sys2Proof/Machine/PortsM83.lean ====
section
/-! DEFINITION. PortsM83.lean: the meanings of the port rows of model M83 (41_port_dispatch.md R101, column M83). -/

namespace Sys2Proof.Machine

/-- `IN.LINK` at port 0x00 of M83 (41_port_dispatch.md R112). -/
def execInLinkM83_00 (s : State) : Answer := inOn .m83 0x00 readLink s

/-- `OUT.LINK` at port 0x00 of M83 (41_port_dispatch.md R113). -/
def execOutLinkM83_00 (v : Byte) (s : State) : Answer := outOn .m83 0x00 v (writeLink 0) s

/-- `IN.KEYPAD` at port 0x01 of M83 (41_port_dispatch.md R106). -/
def execInKeypadM83_01 (s : State) : Answer := inOn .m83 0x01 readKeypad s

/-- `OUT.KEYPAD` at port 0x01 of M83 (41_port_dispatch.md R105). -/
def execOutKeypadM83_01 (v : Byte) (s : State) : Answer := outOn .m83 0x01 v writeKeypad s

/-- `IN.PAGE` at port 0x02 of M83 (41_port_dispatch.md R115). -/
def execInPageM83_02 (s : State) : Answer := inOn .m83 0x02 (readPage 2) s

/-- `OUT.PAGE` at port 0x02 of M83 (41_port_dispatch.md R114). -/
def execOutPageM83_02 (v : Byte) (s : State) : Answer := outOn .m83 0x02 v (writePage 2) s

/-- `IN.STATUS` at port 0x03 of M83 (41_port_dispatch.md R107). -/
def execInStatusM83_03 (s : State) : Answer := inOn .m83 0x03 readStatus s

/-- `OUT.CONTROL` at port 0x03 of M83 (41_port_dispatch.md R108). -/
def execOutControlM83_03 (v : Byte) (s : State) : Answer := outOn .m83 0x03 v writeControl s

/-- `IN.PAGE` at port 0x04 of M83 (41_port_dispatch.md R115). -/
def execInPageM83_04 (s : State) : Answer := inOn .m83 0x04 (readPage 4) s

/-- `OUT.MAPSEL` at port 0x04 of M83 (41_port_dispatch.md R110). -/
def execOutMapselM83_04 (v : Byte) (s : State) : Answer := outOn .m83 0x04 v writeMapsel s

/-- `IN.PLAIN` at port 0x05 of M83 (41_port_dispatch.md R103). -/
def execInPlainM83_05 (s : State) : Answer := inOn .m83 0x05 (readPlain 5) s

/-- `OUT.PLAIN` at port 0x05 of M83 (41_port_dispatch.md R104). -/
def execOutPlainM83_05 (v : Byte) (s : State) : Answer := outOn .m83 0x05 v (writePlain 5) s

/-- `IN.PLAIN` at port 0x06 of M83 (41_port_dispatch.md R103). -/
def execInPlainM83_06 (s : State) : Answer := inOn .m83 0x06 (readPlain 6) s

/-- `OUT.PLAIN` at port 0x06 of M83 (41_port_dispatch.md R104). -/
def execOutPlainM83_06 (v : Byte) (s : State) : Answer := outOn .m83 0x06 v (writePlain 6) s

/-- `IN.PLAIN` at port 0x07 of M83 (41_port_dispatch.md R103). -/
def execInPlainM83_07 (s : State) : Answer := inOn .m83 0x07 (readPlain 7) s

/-- `OUT.PLAIN` at port 0x07 of M83 (41_port_dispatch.md R104). -/
def execOutPlainM83_07 (v : Byte) (s : State) : Answer := outOn .m83 0x07 v (writePlain 7) s

/-- `IN.LCDSTAT` at port 0x10 of M83 (42_lcd.md R160). -/
def execInLcdstatM83_10 (s : State) : Answer := inOn .m83 0x10 readLcdStat s

/-- `OUT.LCDCMD` at port 0x10 of M83 (42_lcd.md R141). -/
def execOutLcdcmdM83_10 (v : Byte) (s : State) : Answer := outOn .m83 0x10 v writeLcdCmd s

/-- `IN.LCDDATA` at port 0x11 of M83 (42_lcd.md R155). -/
def execInLcddataM83_11 (s : State) : Answer := inOn .m83 0x11 readLcdData s

/-- `OUT.LCDDATA` at port 0x11 of M83 (42_lcd.md R156). -/
def execOutLcddataM83_11 (v : Byte) (s : State) : Answer := outOn .m83 0x11 v writeLcdData s

end Sys2Proof.Machine
end

