-- ==== Sys2Proof/Machine/PortsM84SE.lean ====
section
/-! DEFINITION. PortsM84SE.lean: the meanings of the port rows of model M84SE (41_port_dispatch.md R101, column M84SE). -/

namespace Sys2Proof.Machine

/-- `IN.LINK` at port 0x00 of M84SE (41_port_dispatch.md R112). -/
def execInLinkM84SE_00 (s : State) : Answer := inOn .m84se 0x00 readLink s

/-- `OUT.LINK` at port 0x00 of M84SE (41_port_dispatch.md R113). -/
def execOutLinkM84SE_00 (v : Byte) (s : State) : Answer := outOn .m84se 0x00 v (writeLink 0) s

/-- `IN.KEYPAD` at port 0x01 of M84SE (41_port_dispatch.md R106). -/
def execInKeypadM84SE_01 (s : State) : Answer := inOn .m84se 0x01 readKeypad s

/-- `OUT.KEYPAD` at port 0x01 of M84SE (41_port_dispatch.md R105). -/
def execOutKeypadM84SE_01 (v : Byte) (s : State) : Answer := outOn .m84se 0x01 v writeKeypad s

/-- `IN.PLAIN` at port 0x02 of M84SE (41_port_dispatch.md R103). -/
def execInPlainM84SE_02 (s : State) : Answer := inOn .m84se 0x02 (readPlain 2) s

/-- `OUT.PLAIN` at port 0x02 of M84SE (41_port_dispatch.md R104). -/
def execOutPlainM84SE_02 (v : Byte) (s : State) : Answer := outOn .m84se 0x02 v (writePlain 2) s

/-- `IN.CONTROL` at port 0x03 of M84SE (41_port_dispatch.md R109). -/
def execInControlM84SE_03 (s : State) : Answer := inOn .m84se 0x03 readControl s

/-- `OUT.CONTROL` at port 0x03 of M84SE (41_port_dispatch.md R108). -/
def execOutControlM84SE_03 (v : Byte) (s : State) : Answer := outOn .m84se 0x03 v writeControl s

/-- `IN.STATUS` at port 0x04 of M84SE (41_port_dispatch.md R107). -/
def execInStatusM84SE_04 (s : State) : Answer := inOn .m84se 0x04 readStatus s

/-- `OUT.MAPSEL` at port 0x04 of M84SE (41_port_dispatch.md R110). -/
def execOutMapselM84SE_04 (v : Byte) (s : State) : Answer := outOn .m84se 0x04 v writeMapsel s

/-- `IN.PAGE` at port 0x05 of M84SE (41_port_dispatch.md R115). -/
def execInPageM84SE_05 (s : State) : Answer := inOn .m84se 0x05 (readPage 10) s

/-- `OUT.PAGE` at port 0x05 of M84SE (41_port_dispatch.md R114). -/
def execOutPageM84SE_05 (v : Byte) (s : State) : Answer := outOn .m84se 0x05 v (writePage 10) s

/-- `IN.PAGE` at port 0x06 of M84SE (41_port_dispatch.md R115). -/
def execInPageM84SE_06 (s : State) : Answer := inOn .m84se 0x06 (readPage 6) s

/-- `OUT.PAGE` at port 0x06 of M84SE (41_port_dispatch.md R114). -/
def execOutPageM84SE_06 (v : Byte) (s : State) : Answer := outOn .m84se 0x06 v (writePage 6) s

/-- `IN.PAGE` at port 0x07 of M84SE (41_port_dispatch.md R115). -/
def execInPageM84SE_07 (s : State) : Answer := inOn .m84se 0x07 (readPage 7) s

/-- `OUT.PAGE` at port 0x07 of M84SE (41_port_dispatch.md R114). -/
def execOutPageM84SE_07 (v : Byte) (s : State) : Answer := outOn .m84se 0x07 v (writePage 7) s

/-- `IN.LCDSTAT` at port 0x10 of M84SE (42_lcd.md R160). -/
def execInLcdstatM84SE_10 (s : State) : Answer := inOn .m84se 0x10 readLcdStat s

/-- `OUT.LCDCMD` at port 0x10 of M84SE (42_lcd.md R141). -/
def execOutLcdcmdM84SE_10 (v : Byte) (s : State) : Answer := outOn .m84se 0x10 v writeLcdCmd s

/-- `IN.LCDDATA` at port 0x11 of M84SE (42_lcd.md R155). -/
def execInLcddataM84SE_11 (s : State) : Answer := inOn .m84se 0x11 readLcdData s

/-- `OUT.LCDDATA` at port 0x11 of M84SE (42_lcd.md R156). -/
def execOutLcddataM84SE_11 (v : Byte) (s : State) : Answer := outOn .m84se 0x11 v writeLcdData s

end Sys2Proof.Machine
end

