-- ==== Sys2Proof/Machine/PortsM85.lean ====
section
/-! DEFINITION. PortsM85.lean: the meanings of the port rows of model M85 (41_port_dispatch.md R101, column M85). -/

namespace Sys2Proof.Machine

/-- `IN.PLAIN` at port 0x00 of M85 (41_port_dispatch.md R103). -/
def execInPlainM85_00 (s : State) : Answer := inOn .m85 0x00 (readPlain 0) s

/-- `OUT.PLAIN` at port 0x00 of M85 (41_port_dispatch.md R104). -/
def execOutPlainM85_00 (v : Byte) (s : State) : Answer := outOn .m85 0x00 v (writePlain 0) s

/-- `IN.KEYPAD` at port 0x01 of M85 (41_port_dispatch.md R106). -/
def execInKeypadM85_01 (s : State) : Answer := inOn .m85 0x01 readKeypad s

/-- `OUT.KEYPAD` at port 0x01 of M85 (41_port_dispatch.md R105). -/
def execOutKeypadM85_01 (v : Byte) (s : State) : Answer := outOn .m85 0x01 v writeKeypad s

/-- `IN.CONTRAST` at port 0x02 of M85 (41_port_dispatch.md R111). -/
def execInContrastM85_02 (s : State) : Answer := inOn .m85 0x02 readContrast s

/-- `OUT.CONTRAST` at port 0x02 of M85 (41_port_dispatch.md R111). -/
def execOutContrastM85_02 (v : Byte) (s : State) : Answer := outOn .m85 0x02 v writeContrast s

/-- `IN.STATUS` at port 0x03 of M85 (41_port_dispatch.md R107). -/
def execInStatusM85_03 (s : State) : Answer := inOn .m85 0x03 readStatus s

/-- `OUT.CONTROL` at port 0x03 of M85 (41_port_dispatch.md R108). -/
def execOutControlM85_03 (v : Byte) (s : State) : Answer := outOn .m85 0x03 v writeControl s

/-- `IN.PLAIN` at port 0x04 of M85 (41_port_dispatch.md R103). -/
def execInPlainM85_04 (s : State) : Answer := inOn .m85 0x04 (readPlain 4) s

/-- `OUT.PLAIN` at port 0x04 of M85 (41_port_dispatch.md R104). -/
def execOutPlainM85_04 (v : Byte) (s : State) : Answer := outOn .m85 0x04 v (writePlain 4) s

/-- `IN.PAGE` at port 0x05 of M85 (41_port_dispatch.md R115). -/
def execInPageM85_05 (s : State) : Answer := inOn .m85 0x05 (readPage 5) s

/-- `OUT.PAGE` at port 0x05 of M85 (41_port_dispatch.md R114). -/
def execOutPageM85_05 (v : Byte) (s : State) : Answer := outOn .m85 0x05 v (writePage 5) s

/-- `IN.PLAIN` at port 0x06 of M85 (41_port_dispatch.md R103). -/
def execInPlainM85_06 (s : State) : Answer := inOn .m85 0x06 (readPlain 6) s

/-- `OUT.PLAIN` at port 0x06 of M85 (41_port_dispatch.md R104). -/
def execOutPlainM85_06 (v : Byte) (s : State) : Answer := outOn .m85 0x06 v (writePlain 6) s

/-- `IN.LINK` at port 0x07 of M85 (41_port_dispatch.md R112). -/
def execInLinkM85_07 (s : State) : Answer := inOn .m85 0x07 readLink s

/-- `OUT.LINK` at port 0x07 of M85 (41_port_dispatch.md R113). -/
def execOutLinkM85_07 (v : Byte) (s : State) : Answer := outOn .m85 0x07 v (writeLink 7) s

end Sys2Proof.Machine
end

