-- ==== Sys2Proof/Machine/Tick.lean ====
section
/-! DEFINITION. Tick.lean: the interrupt and timing sequencer (43_tick_sequencer.md R180 to R189). -/

namespace Sys2Proof.Machine

/-- `UCount` after the refresh timer's addition (43_tick_sequencer.md R187). -/
def refreshSum (s : State) : Nat := s.uCount + s.uperiod

/-- Does the refresh timer fire in this tick (43_tick_sequencer.md R187)? -/
def refreshFires (s : State) : Bool := decide (Config.refreshThreshold ≤ refreshSum s)

/-- STATUS as this tick recomputes it (43_tick_sequencer.md R183, R185). -/
def tickStatus (s : State) : Byte := statusByte (s.port 3) (onState s.onKey s.startupOn)

/-- `ExitNow` after step 1 of this tick (43_tick_sequencer.md R181). -/
def tickExit (h : Bool) (s : State) : Bool := s.exitNow || powerOff (s.port 3) s.startupOn h

/-- The five steps of a tick in order (43_tick_sequencer.md R180): each reads what the steps before it left, and steps 1
and 2 the counter before its decrement (R184). -/
def tick (h : Bool) (s : State) : State :=
  ({ s.setPort 8 (tickStatus s) with
      exitNow := tickExit h s
      startupOn := if s.startupOn = 0 then 0 else s.startupOn - 1
      uCount := if refreshFires s then refreshSum s - Config.refreshThreshold else refreshSum s }).answer
    (some (.tick (tickResult (tickExit h s) (tickStatus s))))
    (if refreshFires s then some .refresh else none)

/-- `TICK h` (43_tick_sequencer.md R180). -/
def execTick (h : Bool) (s : State) : Answer := .next (tick h s)

end Sys2Proof.Machine
end

