-- ==== Sys2Proof/Machine/Dispatch.lean ====
section
/-! DEFINITION. Dispatch.lean: one arm per constructor of `Instr`, each one direct call of its meaning. -/

namespace Sys2Proof.Machine

def exec (i : Instr) (s : State) : Host.Outcome State Fault Refusal :=
  match i with
  | .lcdSetcontrast c => Sys2Proof.Machine.execLcdSetcontrast c s
  | .lcdSetrow r => Sys2Proof.Machine.execLcdSetrow r s
  | .lcdSetscroll z => Sys2Proof.Machine.execLcdSetscroll z s
  | .lcdSetcol x y => Sys2Proof.Machine.execLcdSetcol x y s
  | .lcdMode6 x => Sys2Proof.Machine.execLcdMode6 x s
  | .lcdMode8 x => Sys2Proof.Machine.execLcdMode8 x s
  | .lcdOff x => Sys2Proof.Machine.execLcdOff x s
  | .lcdOn x => Sys2Proof.Machine.execLcdOn x s
  | .lcdDirRowdec x => Sys2Proof.Machine.execLcdDirRowdec x s
  | .lcdDirRowinc x => Sys2Proof.Machine.execLcdDirRowinc x s
  | .lcdDirColdec x => Sys2Proof.Machine.execLcdDirColdec x s
  | .lcdDirColinc x => Sys2Proof.Machine.execLcdDirColinc x s
  | .inPlainM85_00 => Sys2Proof.Machine.execInPlainM85_00 s
  | .outPlainM85_00 v => Sys2Proof.Machine.execOutPlainM85_00 v s
  | .inKeypadM85_01 => Sys2Proof.Machine.execInKeypadM85_01 s
  | .outKeypadM85_01 v => Sys2Proof.Machine.execOutKeypadM85_01 v s
  | .inContrastM85_02 => Sys2Proof.Machine.execInContrastM85_02 s
  | .outContrastM85_02 v => Sys2Proof.Machine.execOutContrastM85_02 v s
  | .inStatusM85_03 => Sys2Proof.Machine.execInStatusM85_03 s
  | .outControlM85_03 v => Sys2Proof.Machine.execOutControlM85_03 v s
  | .inPlainM85_04 => Sys2Proof.Machine.execInPlainM85_04 s
  | .outPlainM85_04 v => Sys2Proof.Machine.execOutPlainM85_04 v s
  | .inPageM85_05 => Sys2Proof.Machine.execInPageM85_05 s
  | .outPageM85_05 v => Sys2Proof.Machine.execOutPageM85_05 v s
  | .inPlainM85_06 => Sys2Proof.Machine.execInPlainM85_06 s
  | .outPlainM85_06 v => Sys2Proof.Machine.execOutPlainM85_06 v s
  | .inLinkM85_07 => Sys2Proof.Machine.execInLinkM85_07 s
  | .outLinkM85_07 v => Sys2Proof.Machine.execOutLinkM85_07 v s
  | .inPlainM86_00 => Sys2Proof.Machine.execInPlainM86_00 s
  | .outPlainM86_00 v => Sys2Proof.Machine.execOutPlainM86_00 v s
  | .inKeypadM86_01 => Sys2Proof.Machine.execInKeypadM86_01 s
  | .outKeypadM86_01 v => Sys2Proof.Machine.execOutKeypadM86_01 v s
  | .inContrastM86_02 => Sys2Proof.Machine.execInContrastM86_02 s
  | .outContrastM86_02 v => Sys2Proof.Machine.execOutContrastM86_02 v s
  | .inStatusM86_03 => Sys2Proof.Machine.execInStatusM86_03 s
  | .outControlM86_03 v => Sys2Proof.Machine.execOutControlM86_03 v s
  | .inPlainM86_04 => Sys2Proof.Machine.execInPlainM86_04 s
  | .outPlainM86_04 v => Sys2Proof.Machine.execOutPlainM86_04 v s
  | .inPageM86_05 => Sys2Proof.Machine.execInPageM86_05 s
  | .outPageM86_05 v => Sys2Proof.Machine.execOutPageM86_05 v s
  | .inPageM86_06 => Sys2Proof.Machine.execInPageM86_06 s
  | .outPageM86_06 v => Sys2Proof.Machine.execOutPageM86_06 v s
  | .inLinkM86_07 => Sys2Proof.Machine.execInLinkM86_07 s
  | .outLinkM86_07 v => Sys2Proof.Machine.execOutLinkM86_07 v s
  | .inLinkM82_00 => Sys2Proof.Machine.execInLinkM82_00 s
  | .outLinkM82_00 v => Sys2Proof.Machine.execOutLinkM82_00 v s
  | .inKeypadM82_01 => Sys2Proof.Machine.execInKeypadM82_01 s
  | .outKeypadM82_01 v => Sys2Proof.Machine.execOutKeypadM82_01 v s
  | .inPageM82_02 => Sys2Proof.Machine.execInPageM82_02 s
  | .outPageM82_02 v => Sys2Proof.Machine.execOutPageM82_02 v s
  | .inStatusM82_03 => Sys2Proof.Machine.execInStatusM82_03 s
  | .outControlM82_03 v => Sys2Proof.Machine.execOutControlM82_03 v s
  | .inPlainM82_04 => Sys2Proof.Machine.execInPlainM82_04 s
  | .outPlainM82_04 v => Sys2Proof.Machine.execOutPlainM82_04 v s
  | .inPlainM82_05 => Sys2Proof.Machine.execInPlainM82_05 s
  | .outPlainM82_05 v => Sys2Proof.Machine.execOutPlainM82_05 v s
  | .inPlainM82_06 => Sys2Proof.Machine.execInPlainM82_06 s
  | .outPlainM82_06 v => Sys2Proof.Machine.execOutPlainM82_06 v s
  | .inPlainM82_07 => Sys2Proof.Machine.execInPlainM82_07 s
  | .outPlainM82_07 v => Sys2Proof.Machine.execOutPlainM82_07 v s
  | .inLcdstatM82_10 => Sys2Proof.Machine.execInLcdstatM82_10 s
  | .outLcdcmdM82_10 v => Sys2Proof.Machine.execOutLcdcmdM82_10 v s
  | .inLcddataM82_11 => Sys2Proof.Machine.execInLcddataM82_11 s
  | .outLcddataM82_11 v => Sys2Proof.Machine.execOutLcddataM82_11 v s
  | .inLinkM83_00 => Sys2Proof.Machine.execInLinkM83_00 s
  | .outLinkM83_00 v => Sys2Proof.Machine.execOutLinkM83_00 v s
  | .inKeypadM83_01 => Sys2Proof.Machine.execInKeypadM83_01 s
  | .outKeypadM83_01 v => Sys2Proof.Machine.execOutKeypadM83_01 v s
  | .inPageM83_02 => Sys2Proof.Machine.execInPageM83_02 s
  | .outPageM83_02 v => Sys2Proof.Machine.execOutPageM83_02 v s
  | .inStatusM83_03 => Sys2Proof.Machine.execInStatusM83_03 s
  | .outControlM83_03 v => Sys2Proof.Machine.execOutControlM83_03 v s
  | .inPageM83_04 => Sys2Proof.Machine.execInPageM83_04 s
  | .outMapselM83_04 v => Sys2Proof.Machine.execOutMapselM83_04 v s
  | .inPlainM83_05 => Sys2Proof.Machine.execInPlainM83_05 s
  | .outPlainM83_05 v => Sys2Proof.Machine.execOutPlainM83_05 v s
  | .inPlainM83_06 => Sys2Proof.Machine.execInPlainM83_06 s
  | .outPlainM83_06 v => Sys2Proof.Machine.execOutPlainM83_06 v s
  | .inPlainM83_07 => Sys2Proof.Machine.execInPlainM83_07 s
  | .outPlainM83_07 v => Sys2Proof.Machine.execOutPlainM83_07 v s
  | .inLcdstatM83_10 => Sys2Proof.Machine.execInLcdstatM83_10 s
  | .outLcdcmdM83_10 v => Sys2Proof.Machine.execOutLcdcmdM83_10 v s
  | .inLcddataM83_11 => Sys2Proof.Machine.execInLcddataM83_11 s
  | .outLcddataM83_11 v => Sys2Proof.Machine.execOutLcddataM83_11 v s
  | .inLinkM83P_00 => Sys2Proof.Machine.execInLinkM83P_00 s
  | .outLinkM83P_00 v => Sys2Proof.Machine.execOutLinkM83P_00 v s
  | .inKeypadM83P_01 => Sys2Proof.Machine.execInKeypadM83P_01 s
  | .outKeypadM83P_01 v => Sys2Proof.Machine.execOutKeypadM83P_01 v s
  | .inPlainM83P_02 => Sys2Proof.Machine.execInPlainM83P_02 s
  | .outPlainM83P_02 v => Sys2Proof.Machine.execOutPlainM83P_02 v s
  | .inControlM83P_03 => Sys2Proof.Machine.execInControlM83P_03 s
  | .outControlM83P_03 v => Sys2Proof.Machine.execOutControlM83P_03 v s
  | .inStatusM83P_04 => Sys2Proof.Machine.execInStatusM83P_04 s
  | .outMapselM83P_04 v => Sys2Proof.Machine.execOutMapselM83P_04 v s
  | .inPlainM83P_05 => Sys2Proof.Machine.execInPlainM83P_05 s
  | .outPlainM83P_05 v => Sys2Proof.Machine.execOutPlainM83P_05 v s
  | .inPageM83P_06 => Sys2Proof.Machine.execInPageM83P_06 s
  | .outPageM83P_06 v => Sys2Proof.Machine.execOutPageM83P_06 v s
  | .inPageM83P_07 => Sys2Proof.Machine.execInPageM83P_07 s
  | .outPageM83P_07 v => Sys2Proof.Machine.execOutPageM83P_07 v s
  | .inLcdstatM83P_10 => Sys2Proof.Machine.execInLcdstatM83P_10 s
  | .outLcdcmdM83P_10 v => Sys2Proof.Machine.execOutLcdcmdM83P_10 v s
  | .inLcddataM83P_11 => Sys2Proof.Machine.execInLcddataM83P_11 s
  | .outLcddataM83P_11 v => Sys2Proof.Machine.execOutLcddataM83P_11 v s
  | .inLinkM83SE_00 => Sys2Proof.Machine.execInLinkM83SE_00 s
  | .outLinkM83SE_00 v => Sys2Proof.Machine.execOutLinkM83SE_00 v s
  | .inKeypadM83SE_01 => Sys2Proof.Machine.execInKeypadM83SE_01 s
  | .outKeypadM83SE_01 v => Sys2Proof.Machine.execOutKeypadM83SE_01 v s
  | .inPlainM83SE_02 => Sys2Proof.Machine.execInPlainM83SE_02 s
  | .outPlainM83SE_02 v => Sys2Proof.Machine.execOutPlainM83SE_02 v s
  | .inControlM83SE_03 => Sys2Proof.Machine.execInControlM83SE_03 s
  | .outControlM83SE_03 v => Sys2Proof.Machine.execOutControlM83SE_03 v s
  | .inStatusM83SE_04 => Sys2Proof.Machine.execInStatusM83SE_04 s
  | .outMapselM83SE_04 v => Sys2Proof.Machine.execOutMapselM83SE_04 v s
  | .inPageM83SE_05 => Sys2Proof.Machine.execInPageM83SE_05 s
  | .outPageM83SE_05 v => Sys2Proof.Machine.execOutPageM83SE_05 v s
  | .inPageM83SE_06 => Sys2Proof.Machine.execInPageM83SE_06 s
  | .outPageM83SE_06 v => Sys2Proof.Machine.execOutPageM83SE_06 v s
  | .inPageM83SE_07 => Sys2Proof.Machine.execInPageM83SE_07 s
  | .outPageM83SE_07 v => Sys2Proof.Machine.execOutPageM83SE_07 v s
  | .inLcdstatM83SE_10 => Sys2Proof.Machine.execInLcdstatM83SE_10 s
  | .outLcdcmdM83SE_10 v => Sys2Proof.Machine.execOutLcdcmdM83SE_10 v s
  | .inLcddataM83SE_11 => Sys2Proof.Machine.execInLcddataM83SE_11 s
  | .outLcddataM83SE_11 v => Sys2Proof.Machine.execOutLcddataM83SE_11 v s
  | .inLinkM84P_00 => Sys2Proof.Machine.execInLinkM84P_00 s
  | .outLinkM84P_00 v => Sys2Proof.Machine.execOutLinkM84P_00 v s
  | .inKeypadM84P_01 => Sys2Proof.Machine.execInKeypadM84P_01 s
  | .outKeypadM84P_01 v => Sys2Proof.Machine.execOutKeypadM84P_01 v s
  | .inPlainM84P_02 => Sys2Proof.Machine.execInPlainM84P_02 s
  | .outPlainM84P_02 v => Sys2Proof.Machine.execOutPlainM84P_02 v s
  | .inControlM84P_03 => Sys2Proof.Machine.execInControlM84P_03 s
  | .outControlM84P_03 v => Sys2Proof.Machine.execOutControlM84P_03 v s
  | .inStatusM84P_04 => Sys2Proof.Machine.execInStatusM84P_04 s
  | .outMapselM84P_04 v => Sys2Proof.Machine.execOutMapselM84P_04 v s
  | .inPageM84P_05 => Sys2Proof.Machine.execInPageM84P_05 s
  | .outPageM84P_05 v => Sys2Proof.Machine.execOutPageM84P_05 v s
  | .inPageM84P_06 => Sys2Proof.Machine.execInPageM84P_06 s
  | .outPageM84P_06 v => Sys2Proof.Machine.execOutPageM84P_06 v s
  | .inPageM84P_07 => Sys2Proof.Machine.execInPageM84P_07 s
  | .outPageM84P_07 v => Sys2Proof.Machine.execOutPageM84P_07 v s
  | .inLcdstatM84P_10 => Sys2Proof.Machine.execInLcdstatM84P_10 s
  | .outLcdcmdM84P_10 v => Sys2Proof.Machine.execOutLcdcmdM84P_10 v s
  | .inLcddataM84P_11 => Sys2Proof.Machine.execInLcddataM84P_11 s
  | .outLcddataM84P_11 v => Sys2Proof.Machine.execOutLcddataM84P_11 v s
  | .inLinkM84SE_00 => Sys2Proof.Machine.execInLinkM84SE_00 s
  | .outLinkM84SE_00 v => Sys2Proof.Machine.execOutLinkM84SE_00 v s
  | .inKeypadM84SE_01 => Sys2Proof.Machine.execInKeypadM84SE_01 s
  | .outKeypadM84SE_01 v => Sys2Proof.Machine.execOutKeypadM84SE_01 v s
  | .inPlainM84SE_02 => Sys2Proof.Machine.execInPlainM84SE_02 s
  | .outPlainM84SE_02 v => Sys2Proof.Machine.execOutPlainM84SE_02 v s
  | .inControlM84SE_03 => Sys2Proof.Machine.execInControlM84SE_03 s
  | .outControlM84SE_03 v => Sys2Proof.Machine.execOutControlM84SE_03 v s
  | .inStatusM84SE_04 => Sys2Proof.Machine.execInStatusM84SE_04 s
  | .outMapselM84SE_04 v => Sys2Proof.Machine.execOutMapselM84SE_04 v s
  | .inPageM84SE_05 => Sys2Proof.Machine.execInPageM84SE_05 s
  | .outPageM84SE_05 v => Sys2Proof.Machine.execOutPageM84SE_05 v s
  | .inPageM84SE_06 => Sys2Proof.Machine.execInPageM84SE_06 s
  | .outPageM84SE_06 v => Sys2Proof.Machine.execOutPageM84SE_06 v s
  | .inPageM84SE_07 => Sys2Proof.Machine.execInPageM84SE_07 s
  | .outPageM84SE_07 v => Sys2Proof.Machine.execOutPageM84SE_07 v s
  | .inLcdstatM84SE_10 => Sys2Proof.Machine.execInLcdstatM84SE_10 s
  | .outLcdcmdM84SE_10 v => Sys2Proof.Machine.execOutLcdcmdM84SE_10 v s
  | .inLcddataM84SE_11 => Sys2Proof.Machine.execInLcddataM84SE_11 s
  | .outLcddataM84SE_11 v => Sys2Proof.Machine.execOutLcddataM84SE_11 v s
  | .inUnmapped tag p => Sys2Proof.Machine.execInUnmapped tag p s
  | .outUnmapped tag p v => Sys2Proof.Machine.execOutUnmapped tag p v s
  | .memrd a => Sys2Proof.Machine.execMemrd a s
  | .memwr a v => Sys2Proof.Machine.execMemwr a v s
  | .tick h => Sys2Proof.Machine.execTick h s
  | .reset m => Sys2Proof.Machine.execReset m s
  | .hostexit => Sys2Proof.Machine.execHostexit s
  | .hostkeys k o => Sys2Proof.Machine.execHostkeys k o s

end Sys2Proof.Machine
end

