-- ==== Sys2Proof/WellFormed.lean ====
section
/-! DEFINITION. WellFormed.lean: the checks an operation's operands must pass. A full-key port row, an LCD command and
a memory, tick or host operation has no ill-formed operand (30_encoding.md R69). -/

namespace Sys2Proof

/-- The port addresses that 20_memory.md R54 maps on the model with this tag: `0x00..0x07` on every model, `0x10` and
`0x11` on the six with an LCD controller (tags 2 to 7); no model has a tag above 7 (00_scope.md R7). -/
def portMapped (tag : BitVec 4) (p : Byte) : Bool :=
  decide (tag ≤ 7) && (decide (p ≤ 0x07) || (decide (2 ≤ tag) && (p == 0x10 || p == 0x11)))

/-- The operands the spec gives each operation: a default row stands for a key that no full-key row matches
(30_encoding.md R76), and a model index is 0 to 7 (70_reset_and_hazards.md R230). -/
def Instr.wellFormed : Instr → Bool
  | .inUnmapped tag p => !portMapped tag p
  | .outUnmapped tag p _ => !portMapped tag p
  | .reset m => decide (m.toNat < 8)
  | _ => true

end Sys2Proof
end

