-- ==== Sys2Proof/Decode.lean ====
section
/-! DEFINITION. Decode.lean: the decoder, total on any bytes, and the encoder (30_encoding.md R60 to R76).

An operation is bytes at an interface. PORT: the 13-bit key `dir, TAG[11:8], p[7:0]` of R76 in two bytes, low byte
first, then the data byte of an OUT. LCDCMD: the command byte. MEM: `dir` in bit 0, the address low byte first, the
data byte of a write. TICK: `h` in bit 0. RESET: the model index. HOSTEXIT: nothing. HOSTKEYS: the eight row bytes,
then `o` in bit 0. The spec gives the keys and the fields; the place of the operand bytes after them is the model's
(notes/assumptions/11.md). -/

namespace Sys2Proof

/-- The IN rows of model M85 (30_encoding.md R76): each is matched on its whole key, the default row otherwise. -/
def inRowM85 (p : Byte) : Instr :=
  match p with
  | 0x00 => .inPlainM85_00
  | 0x01 => .inKeypadM85_01
  | 0x02 => .inContrastM85_02
  | 0x03 => .inStatusM85_03
  | 0x04 => .inPlainM85_04
  | 0x05 => .inPageM85_05
  | 0x06 => .inPlainM85_06
  | 0x07 => .inLinkM85_07
  | _ => .inUnmapped 0 p

/-- The IN rows of model M86 (30_encoding.md R76): each is matched on its whole key, the default row otherwise. -/
def inRowM86 (p : Byte) : Instr :=
  match p with
  | 0x00 => .inPlainM86_00
  | 0x01 => .inKeypadM86_01
  | 0x02 => .inContrastM86_02
  | 0x03 => .inStatusM86_03
  | 0x04 => .inPlainM86_04
  | 0x05 => .inPageM86_05
  | 0x06 => .inPageM86_06
  | 0x07 => .inLinkM86_07
  | _ => .inUnmapped 1 p

/-- The IN rows of model M82 (30_encoding.md R76): each is matched on its whole key, the default row otherwise. -/
def inRowM82 (p : Byte) : Instr :=
  match p with
  | 0x00 => .inLinkM82_00
  | 0x01 => .inKeypadM82_01
  | 0x02 => .inPageM82_02
  | 0x03 => .inStatusM82_03
  | 0x04 => .inPlainM82_04
  | 0x05 => .inPlainM82_05
  | 0x06 => .inPlainM82_06
  | 0x07 => .inPlainM82_07
  | 0x10 => .inLcdstatM82_10
  | 0x11 => .inLcddataM82_11
  | _ => .inUnmapped 2 p

/-- The IN rows of model M83 (30_encoding.md R76): each is matched on its whole key, the default row otherwise. -/
def inRowM83 (p : Byte) : Instr :=
  match p with
  | 0x00 => .inLinkM83_00
  | 0x01 => .inKeypadM83_01
  | 0x02 => .inPageM83_02
  | 0x03 => .inStatusM83_03
  | 0x04 => .inPageM83_04
  | 0x05 => .inPlainM83_05
  | 0x06 => .inPlainM83_06
  | 0x07 => .inPlainM83_07
  | 0x10 => .inLcdstatM83_10
  | 0x11 => .inLcddataM83_11
  | _ => .inUnmapped 3 p

/-- The IN rows of model M83P (30_encoding.md R76): each is matched on its whole key, the default row otherwise. -/
def inRowM83P (p : Byte) : Instr :=
  match p with
  | 0x00 => .inLinkM83P_00
  | 0x01 => .inKeypadM83P_01
  | 0x02 => .inPlainM83P_02
  | 0x03 => .inControlM83P_03
  | 0x04 => .inStatusM83P_04
  | 0x05 => .inPlainM83P_05
  | 0x06 => .inPageM83P_06
  | 0x07 => .inPageM83P_07
  | 0x10 => .inLcdstatM83P_10
  | 0x11 => .inLcddataM83P_11
  | _ => .inUnmapped 4 p

/-- The IN rows of model M83SE (30_encoding.md R76): each is matched on its whole key, the default row otherwise. -/
def inRowM83SE (p : Byte) : Instr :=
  match p with
  | 0x00 => .inLinkM83SE_00
  | 0x01 => .inKeypadM83SE_01
  | 0x02 => .inPlainM83SE_02
  | 0x03 => .inControlM83SE_03
  | 0x04 => .inStatusM83SE_04
  | 0x05 => .inPageM83SE_05
  | 0x06 => .inPageM83SE_06
  | 0x07 => .inPageM83SE_07
  | 0x10 => .inLcdstatM83SE_10
  | 0x11 => .inLcddataM83SE_11
  | _ => .inUnmapped 5 p

/-- The IN rows of model M84P (30_encoding.md R76): each is matched on its whole key, the default row otherwise. -/
def inRowM84P (p : Byte) : Instr :=
  match p with
  | 0x00 => .inLinkM84P_00
  | 0x01 => .inKeypadM84P_01
  | 0x02 => .inPlainM84P_02
  | 0x03 => .inControlM84P_03
  | 0x04 => .inStatusM84P_04
  | 0x05 => .inPageM84P_05
  | 0x06 => .inPageM84P_06
  | 0x07 => .inPageM84P_07
  | 0x10 => .inLcdstatM84P_10
  | 0x11 => .inLcddataM84P_11
  | _ => .inUnmapped 6 p

/-- The IN rows of model M84SE (30_encoding.md R76): each is matched on its whole key, the default row otherwise. -/
def inRowM84SE (p : Byte) : Instr :=
  match p with
  | 0x00 => .inLinkM84SE_00
  | 0x01 => .inKeypadM84SE_01
  | 0x02 => .inPlainM84SE_02
  | 0x03 => .inControlM84SE_03
  | 0x04 => .inStatusM84SE_04
  | 0x05 => .inPageM84SE_05
  | 0x06 => .inPageM84SE_06
  | 0x07 => .inPageM84SE_07
  | 0x10 => .inLcdstatM84SE_10
  | 0x11 => .inLcddataM84SE_11
  | _ => .inUnmapped 7 p

/-- The OUT rows of model M85 (30_encoding.md R76): each is matched on its whole key, the default row otherwise. -/
def outRowM85 (p : Byte) (v : Byte) : Instr :=
  match p with
  | 0x00 => .outPlainM85_00 v
  | 0x01 => .outKeypadM85_01 v
  | 0x02 => .outContrastM85_02 v
  | 0x03 => .outControlM85_03 v
  | 0x04 => .outPlainM85_04 v
  | 0x05 => .outPageM85_05 v
  | 0x06 => .outPlainM85_06 v
  | 0x07 => .outLinkM85_07 v
  | _ => .outUnmapped 0 p v

/-- The OUT rows of model M86 (30_encoding.md R76): each is matched on its whole key, the default row otherwise. -/
def outRowM86 (p : Byte) (v : Byte) : Instr :=
  match p with
  | 0x00 => .outPlainM86_00 v
  | 0x01 => .outKeypadM86_01 v
  | 0x02 => .outContrastM86_02 v
  | 0x03 => .outControlM86_03 v
  | 0x04 => .outPlainM86_04 v
  | 0x05 => .outPageM86_05 v
  | 0x06 => .outPageM86_06 v
  | 0x07 => .outLinkM86_07 v
  | _ => .outUnmapped 1 p v

/-- The OUT rows of model M82 (30_encoding.md R76): each is matched on its whole key, the default row otherwise. -/
def outRowM82 (p : Byte) (v : Byte) : Instr :=
  match p with
  | 0x00 => .outLinkM82_00 v
  | 0x01 => .outKeypadM82_01 v
  | 0x02 => .outPageM82_02 v
  | 0x03 => .outControlM82_03 v
  | 0x04 => .outPlainM82_04 v
  | 0x05 => .outPlainM82_05 v
  | 0x06 => .outPlainM82_06 v
  | 0x07 => .outPlainM82_07 v
  | 0x10 => .outLcdcmdM82_10 v
  | 0x11 => .outLcddataM82_11 v
  | _ => .outUnmapped 2 p v

/-- The OUT rows of model M83 (30_encoding.md R76): each is matched on its whole key, the default row otherwise. -/
def outRowM83 (p : Byte) (v : Byte) : Instr :=
  match p with
  | 0x00 => .outLinkM83_00 v
  | 0x01 => .outKeypadM83_01 v
  | 0x02 => .outPageM83_02 v
  | 0x03 => .outControlM83_03 v
  | 0x04 => .outMapselM83_04 v
  | 0x05 => .outPlainM83_05 v
  | 0x06 => .outPlainM83_06 v
  | 0x07 => .outPlainM83_07 v
  | 0x10 => .outLcdcmdM83_10 v
  | 0x11 => .outLcddataM83_11 v
  | _ => .outUnmapped 3 p v

/-- The OUT rows of model M83P (30_encoding.md R76): each is matched on its whole key, the default row otherwise. -/
def outRowM83P (p : Byte) (v : Byte) : Instr :=
  match p with
  | 0x00 => .outLinkM83P_00 v
  | 0x01 => .outKeypadM83P_01 v
  | 0x02 => .outPlainM83P_02 v
  | 0x03 => .outControlM83P_03 v
  | 0x04 => .outMapselM83P_04 v
  | 0x05 => .outPlainM83P_05 v
  | 0x06 => .outPageM83P_06 v
  | 0x07 => .outPageM83P_07 v
  | 0x10 => .outLcdcmdM83P_10 v
  | 0x11 => .outLcddataM83P_11 v
  | _ => .outUnmapped 4 p v

/-- The OUT rows of model M83SE (30_encoding.md R76): each is matched on its whole key, the default row otherwise. -/
def outRowM83SE (p : Byte) (v : Byte) : Instr :=
  match p with
  | 0x00 => .outLinkM83SE_00 v
  | 0x01 => .outKeypadM83SE_01 v
  | 0x02 => .outPlainM83SE_02 v
  | 0x03 => .outControlM83SE_03 v
  | 0x04 => .outMapselM83SE_04 v
  | 0x05 => .outPageM83SE_05 v
  | 0x06 => .outPageM83SE_06 v
  | 0x07 => .outPageM83SE_07 v
  | 0x10 => .outLcdcmdM83SE_10 v
  | 0x11 => .outLcddataM83SE_11 v
  | _ => .outUnmapped 5 p v

/-- The OUT rows of model M84P (30_encoding.md R76): each is matched on its whole key, the default row otherwise. -/
def outRowM84P (p : Byte) (v : Byte) : Instr :=
  match p with
  | 0x00 => .outLinkM84P_00 v
  | 0x01 => .outKeypadM84P_01 v
  | 0x02 => .outPlainM84P_02 v
  | 0x03 => .outControlM84P_03 v
  | 0x04 => .outMapselM84P_04 v
  | 0x05 => .outPageM84P_05 v
  | 0x06 => .outPageM84P_06 v
  | 0x07 => .outPageM84P_07 v
  | 0x10 => .outLcdcmdM84P_10 v
  | 0x11 => .outLcddataM84P_11 v
  | _ => .outUnmapped 6 p v

/-- The OUT rows of model M84SE (30_encoding.md R76): each is matched on its whole key, the default row otherwise. -/
def outRowM84SE (p : Byte) (v : Byte) : Instr :=
  match p with
  | 0x00 => .outLinkM84SE_00 v
  | 0x01 => .outKeypadM84SE_01 v
  | 0x02 => .outPlainM84SE_02 v
  | 0x03 => .outControlM84SE_03 v
  | 0x04 => .outMapselM84SE_04 v
  | 0x05 => .outPageM84SE_05 v
  | 0x06 => .outPageM84SE_06 v
  | 0x07 => .outPageM84SE_07 v
  | 0x10 => .outLcdcmdM84SE_10 v
  | 0x11 => .outLcddataM84SE_11 v
  | _ => .outUnmapped 7 p v

/-- The IN row of a key: its tag selects the model's rows; a tag no model has matches no full-key row. -/
def inRow (tag : BitVec 4) (p : Byte) : Instr :=
  match tag with
  | 0 => inRowM85 p
  | 1 => inRowM86 p
  | 2 => inRowM82 p
  | 3 => inRowM83 p
  | 4 => inRowM83P p
  | 5 => inRowM83SE p
  | 6 => inRowM84P p
  | 7 => inRowM84SE p
  | _ => .inUnmapped tag p

/-- The OUT row of a key: its tag selects the model's rows; a tag no model has matches no full-key row. -/
def outRow (tag : BitVec 4) (p : Byte) (v : Byte) : Instr :=
  match tag with
  | 0 => outRowM85 p v
  | 1 => outRowM86 p v
  | 2 => outRowM82 p v
  | 3 => outRowM83 p v
  | 4 => outRowM83P p v
  | 5 => outRowM83SE p v
  | 6 => outRowM84P p v
  | 7 => outRowM84SE p v
  | _ => .outUnmapped tag p v

/-- The LCD command of a byte: the five formats tested from the top (30_encoding.md R65), the operand fields of R67 and
the ignored bits of R68. -/
def lcdRow (v : Byte) : Instr :=
  if 0xC0 ≤ v then .lcdSetcontrast (v.extractLsb' 0 6)
  else if 0x80 ≤ v then .lcdSetrow (v.extractLsb' 0 6)
  else if 0x40 ≤ v then .lcdSetscroll (v.extractLsb' 0 6)
  else if 0x20 ≤ v then .lcdSetcol (v.extractLsb' 4 1) (v.extractLsb' 0 4)
  else
    match v.extractLsb' 0 3 with
    | 0 => .lcdMode6 (v.extractLsb' 3 2)
    | 1 => .lcdMode8 (v.extractLsb' 3 2)
    | 2 => .lcdOff (v.extractLsb' 3 2)
    | 3 => .lcdOn (v.extractLsb' 3 2)
    | 4 => .lcdDirRowdec (v.extractLsb' 3 2)
    | 5 => .lcdDirRowinc (v.extractLsb' 3 2)
    | 6 => .lcdDirColdec (v.extractLsb' 3 2)
    | _ => .lcdDirColinc (v.extractLsb' 3 2)

/-- The PORT format: the 13-bit key in two bytes, low byte first, and the data byte of an OUT. Bits 15:13 are no bits
of the key. -/
def decodePort : List Byte → Except Reject (Instr × List Byte)
  | lo :: hi :: rest =>
    if hi.extractLsb' 5 3 ≠ 0 then .error .spareBits
    else if hi.getLsbD 4 then
      match rest with
      | v :: rest => .ok (outRow (hi.extractLsb' 0 4) lo v, rest)
      | [] => .error .shortWord
    else .ok (inRow (hi.extractLsb' 0 4) lo, rest)
  | _ => .error .shortWord

/-- The MEM format: `dir` alone in its byte (30_encoding.md R60, R76), the address low byte first, the data of a write. -/
def decodeMem : List Byte → Except Reject (Instr × List Byte)
  | dir :: lo :: hi :: rest =>
    if dir.extractLsb' 1 7 ≠ 0 then .error .spareBits
    else if dir.getLsbD 0 then
      match rest with
      | v :: rest => .ok (.memwr (hi ++ lo) v, rest)
      | [] => .error .shortWord
    else .ok (.memrd (hi ++ lo), rest)
  | _ => .error .shortWord

/-- The TICKF format: `h` alone in its byte. -/
def decodeTick : List Byte → Except Reject (Instr × List Byte)
  | h :: rest => if h.extractLsb' 1 7 ≠ 0 then .error .spareBits else .ok (.tick (h.getLsbD 0), rest)
  | [] => .error .shortWord

/-- HOSTKEYS: the eight row bytes in order, then `o` alone in its byte. -/
def decodeKeys : List Byte → Except Reject (Instr × List Byte)
  | k0 :: k1 :: k2 :: k3 :: k4 :: k5 :: k6 :: k7 :: o :: rest =>
    if o.extractLsb' 1 7 ≠ 0 then .error .spareBits
    else .ok (.hostkeys #v[k0, k1, k2, k3, k4, k5, k6, k7] (o.getLsbD 0), rest)
  | _ => .error .shortWord

/-- The decoder: the operation at the front of the bytes that arrive at an interface, and the bytes after it; total,
rejecting by name. -/
def decode : Iface → List Byte → Except Reject (Instr × List Byte)
  | .mem, bs => decodeMem bs
  | .port, bs => decodePort bs
  | .lcdcmd, v :: rest => .ok (lcdRow v, rest)
  | .lcdcmd, [] => .error .shortWord
  | .tick, bs => decodeTick bs
  | .reset, m :: rest => .ok (.reset m, rest)
  | .reset, [] => .error .shortWord
  | .hostexit, rest => .ok (.hostexit, rest)
  | .hostkeys, bs => decodeKeys bs

/-- A bit alone in a byte. -/
def bitByte (b : Bool) : Byte := if b then 1 else 0

/-- The bytes of an IN key: `dir` 0, the tag, the port (30_encoding.md R76). -/
def inKey (tag : BitVec 4) (p : Byte) : List Byte := [p, 0#4 ++ tag]

/-- The bytes of an OUT key and its data: `dir` 1 (30_encoding.md R76). -/
def outKey (tag : BitVec 4) (p v : Byte) : List Byte := [p, 1#4 ++ tag, v]

/-- The interface at which an operation arrives. -/
def Instr.iface : Instr → Iface
  | .memrd _ => .mem
  | .memwr _ _ => .mem
  | .tick _ => .tick
  | .reset _ => .reset
  | .hostexit => .hostexit
  | .hostkeys _ _ => .hostkeys
  | .lcdSetcontrast _ => .lcdcmd
  | .lcdSetrow _ => .lcdcmd
  | .lcdSetscroll _ => .lcdcmd
  | .lcdSetcol _ _ => .lcdcmd
  | .lcdMode6 _ => .lcdcmd
  | .lcdMode8 _ => .lcdcmd
  | .lcdOff _ => .lcdcmd
  | .lcdOn _ => .lcdcmd
  | .lcdDirRowdec _ => .lcdcmd
  | .lcdDirRowinc _ => .lcdcmd
  | .lcdDirColdec _ => .lcdcmd
  | .lcdDirColinc _ => .lcdcmd
  | _ => .port

/-- The encoder: the bytes of an operation at its interface, from the same tables (30_encoding.md R65 to R68, R76). -/
def encode : Instr → List Byte
  | .lcdSetcontrast c => [3#2 ++ c]
  | .lcdSetrow r => [2#2 ++ r]
  | .lcdSetscroll z => [1#2 ++ z]
  | .lcdSetcol x y => [1#3 ++ x ++ y]
  | .lcdMode6 x => [0#3 ++ x ++ 0#3]
  | .lcdMode8 x => [0#3 ++ x ++ 1#3]
  | .lcdOff x => [0#3 ++ x ++ 2#3]
  | .lcdOn x => [0#3 ++ x ++ 3#3]
  | .lcdDirRowdec x => [0#3 ++ x ++ 4#3]
  | .lcdDirRowinc x => [0#3 ++ x ++ 5#3]
  | .lcdDirColdec x => [0#3 ++ x ++ 6#3]
  | .lcdDirColinc x => [0#3 ++ x ++ 7#3]
  | .inPlainM85_00 => inKey 0 0x00
  | .outPlainM85_00 v => outKey 0 0x00 v
  | .inKeypadM85_01 => inKey 0 0x01
  | .outKeypadM85_01 v => outKey 0 0x01 v
  | .inContrastM85_02 => inKey 0 0x02
  | .outContrastM85_02 v => outKey 0 0x02 v
  | .inStatusM85_03 => inKey 0 0x03
  | .outControlM85_03 v => outKey 0 0x03 v
  | .inPlainM85_04 => inKey 0 0x04
  | .outPlainM85_04 v => outKey 0 0x04 v
  | .inPageM85_05 => inKey 0 0x05
  | .outPageM85_05 v => outKey 0 0x05 v
  | .inPlainM85_06 => inKey 0 0x06
  | .outPlainM85_06 v => outKey 0 0x06 v
  | .inLinkM85_07 => inKey 0 0x07
  | .outLinkM85_07 v => outKey 0 0x07 v
  | .inPlainM86_00 => inKey 1 0x00
  | .outPlainM86_00 v => outKey 1 0x00 v
  | .inKeypadM86_01 => inKey 1 0x01
  | .outKeypadM86_01 v => outKey 1 0x01 v
  | .inContrastM86_02 => inKey 1 0x02
  | .outContrastM86_02 v => outKey 1 0x02 v
  | .inStatusM86_03 => inKey 1 0x03
  | .outControlM86_03 v => outKey 1 0x03 v
  | .inPlainM86_04 => inKey 1 0x04
  | .outPlainM86_04 v => outKey 1 0x04 v
  | .inPageM86_05 => inKey 1 0x05
  | .outPageM86_05 v => outKey 1 0x05 v
  | .inPageM86_06 => inKey 1 0x06
  | .outPageM86_06 v => outKey 1 0x06 v
  | .inLinkM86_07 => inKey 1 0x07
  | .outLinkM86_07 v => outKey 1 0x07 v
  | .inLinkM82_00 => inKey 2 0x00
  | .outLinkM82_00 v => outKey 2 0x00 v
  | .inKeypadM82_01 => inKey 2 0x01
  | .outKeypadM82_01 v => outKey 2 0x01 v
  | .inPageM82_02 => inKey 2 0x02
  | .outPageM82_02 v => outKey 2 0x02 v
  | .inStatusM82_03 => inKey 2 0x03
  | .outControlM82_03 v => outKey 2 0x03 v
  | .inPlainM82_04 => inKey 2 0x04
  | .outPlainM82_04 v => outKey 2 0x04 v
  | .inPlainM82_05 => inKey 2 0x05
  | .outPlainM82_05 v => outKey 2 0x05 v
  | .inPlainM82_06 => inKey 2 0x06
  | .outPlainM82_06 v => outKey 2 0x06 v
  | .inPlainM82_07 => inKey 2 0x07
  | .outPlainM82_07 v => outKey 2 0x07 v
  | .inLcdstatM82_10 => inKey 2 0x10
  | .outLcdcmdM82_10 v => outKey 2 0x10 v
  | .inLcddataM82_11 => inKey 2 0x11
  | .outLcddataM82_11 v => outKey 2 0x11 v
  | .inLinkM83_00 => inKey 3 0x00
  | .outLinkM83_00 v => outKey 3 0x00 v
  | .inKeypadM83_01 => inKey 3 0x01
  | .outKeypadM83_01 v => outKey 3 0x01 v
  | .inPageM83_02 => inKey 3 0x02
  | .outPageM83_02 v => outKey 3 0x02 v
  | .inStatusM83_03 => inKey 3 0x03
  | .outControlM83_03 v => outKey 3 0x03 v
  | .inPageM83_04 => inKey 3 0x04
  | .outMapselM83_04 v => outKey 3 0x04 v
  | .inPlainM83_05 => inKey 3 0x05
  | .outPlainM83_05 v => outKey 3 0x05 v
  | .inPlainM83_06 => inKey 3 0x06
  | .outPlainM83_06 v => outKey 3 0x06 v
  | .inPlainM83_07 => inKey 3 0x07
  | .outPlainM83_07 v => outKey 3 0x07 v
  | .inLcdstatM83_10 => inKey 3 0x10
  | .outLcdcmdM83_10 v => outKey 3 0x10 v
  | .inLcddataM83_11 => inKey 3 0x11
  | .outLcddataM83_11 v => outKey 3 0x11 v
  | .inLinkM83P_00 => inKey 4 0x00
  | .outLinkM83P_00 v => outKey 4 0x00 v
  | .inKeypadM83P_01 => inKey 4 0x01
  | .outKeypadM83P_01 v => outKey 4 0x01 v
  | .inPlainM83P_02 => inKey 4 0x02
  | .outPlainM83P_02 v => outKey 4 0x02 v
  | .inControlM83P_03 => inKey 4 0x03
  | .outControlM83P_03 v => outKey 4 0x03 v
  | .inStatusM83P_04 => inKey 4 0x04
  | .outMapselM83P_04 v => outKey 4 0x04 v
  | .inPlainM83P_05 => inKey 4 0x05
  | .outPlainM83P_05 v => outKey 4 0x05 v
  | .inPageM83P_06 => inKey 4 0x06
  | .outPageM83P_06 v => outKey 4 0x06 v
  | .inPageM83P_07 => inKey 4 0x07
  | .outPageM83P_07 v => outKey 4 0x07 v
  | .inLcdstatM83P_10 => inKey 4 0x10
  | .outLcdcmdM83P_10 v => outKey 4 0x10 v
  | .inLcddataM83P_11 => inKey 4 0x11
  | .outLcddataM83P_11 v => outKey 4 0x11 v
  | .inLinkM83SE_00 => inKey 5 0x00
  | .outLinkM83SE_00 v => outKey 5 0x00 v
  | .inKeypadM83SE_01 => inKey 5 0x01
  | .outKeypadM83SE_01 v => outKey 5 0x01 v
  | .inPlainM83SE_02 => inKey 5 0x02
  | .outPlainM83SE_02 v => outKey 5 0x02 v
  | .inControlM83SE_03 => inKey 5 0x03
  | .outControlM83SE_03 v => outKey 5 0x03 v
  | .inStatusM83SE_04 => inKey 5 0x04
  | .outMapselM83SE_04 v => outKey 5 0x04 v
  | .inPageM83SE_05 => inKey 5 0x05
  | .outPageM83SE_05 v => outKey 5 0x05 v
  | .inPageM83SE_06 => inKey 5 0x06
  | .outPageM83SE_06 v => outKey 5 0x06 v
  | .inPageM83SE_07 => inKey 5 0x07
  | .outPageM83SE_07 v => outKey 5 0x07 v
  | .inLcdstatM83SE_10 => inKey 5 0x10
  | .outLcdcmdM83SE_10 v => outKey 5 0x10 v
  | .inLcddataM83SE_11 => inKey 5 0x11
  | .outLcddataM83SE_11 v => outKey 5 0x11 v
  | .inLinkM84P_00 => inKey 6 0x00
  | .outLinkM84P_00 v => outKey 6 0x00 v
  | .inKeypadM84P_01 => inKey 6 0x01
  | .outKeypadM84P_01 v => outKey 6 0x01 v
  | .inPlainM84P_02 => inKey 6 0x02
  | .outPlainM84P_02 v => outKey 6 0x02 v
  | .inControlM84P_03 => inKey 6 0x03
  | .outControlM84P_03 v => outKey 6 0x03 v
  | .inStatusM84P_04 => inKey 6 0x04
  | .outMapselM84P_04 v => outKey 6 0x04 v
  | .inPageM84P_05 => inKey 6 0x05
  | .outPageM84P_05 v => outKey 6 0x05 v
  | .inPageM84P_06 => inKey 6 0x06
  | .outPageM84P_06 v => outKey 6 0x06 v
  | .inPageM84P_07 => inKey 6 0x07
  | .outPageM84P_07 v => outKey 6 0x07 v
  | .inLcdstatM84P_10 => inKey 6 0x10
  | .outLcdcmdM84P_10 v => outKey 6 0x10 v
  | .inLcddataM84P_11 => inKey 6 0x11
  | .outLcddataM84P_11 v => outKey 6 0x11 v
  | .inLinkM84SE_00 => inKey 7 0x00
  | .outLinkM84SE_00 v => outKey 7 0x00 v
  | .inKeypadM84SE_01 => inKey 7 0x01
  | .outKeypadM84SE_01 v => outKey 7 0x01 v
  | .inPlainM84SE_02 => inKey 7 0x02
  | .outPlainM84SE_02 v => outKey 7 0x02 v
  | .inControlM84SE_03 => inKey 7 0x03
  | .outControlM84SE_03 v => outKey 7 0x03 v
  | .inStatusM84SE_04 => inKey 7 0x04
  | .outMapselM84SE_04 v => outKey 7 0x04 v
  | .inPageM84SE_05 => inKey 7 0x05
  | .outPageM84SE_05 v => outKey 7 0x05 v
  | .inPageM84SE_06 => inKey 7 0x06
  | .outPageM84SE_06 v => outKey 7 0x06 v
  | .inPageM84SE_07 => inKey 7 0x07
  | .outPageM84SE_07 v => outKey 7 0x07 v
  | .inLcdstatM84SE_10 => inKey 7 0x10
  | .outLcdcmdM84SE_10 v => outKey 7 0x10 v
  | .inLcddataM84SE_11 => inKey 7 0x11
  | .outLcddataM84SE_11 v => outKey 7 0x11 v
  | .inUnmapped tag p => inKey tag p
  | .outUnmapped tag p v => outKey tag p v
  | .memrd a => [0, a.extractLsb' 0 8, a.extractLsb' 8 8]
  | .memwr a v => [1, a.extractLsb' 0 8, a.extractLsb' 8 8, v]
  | .tick h => [bitByte h]
  | .reset m => [m]
  | .hostexit => []
  | .hostkeys k o => k.toList ++ [bitByte o]

/-- The key's tag field of a model: `cfg.TAG[11:8]` (30_encoding.md R62, R76). -/
def tagField (m : Model) : BitVec 4 := m.cfg.tag.extractLsb' 8 4

/-- Tag folding (30_encoding.md R62): the 12-bit key of a port address on a model. -/
def portKey (m : Model) (p : Byte) : BitVec 12 := m.cfg.tag ||| p.setWidth 12

/-- The interface of a request. -/
def Request.iface : Request → Iface
  | .memrd _ => .mem
  | .memwr _ _ => .mem
  | .input _ => .port
  | .output _ _ => .port
  | .lcdcmd _ => .lcdcmd
  | .tick _ => .tick
  | .reset _ => .reset
  | .hostexit => .hostexit
  | .hostkeys _ _ => .hostkeys

/-- The bytes a request puts before the decoder while the model is `m`: for a port transaction the key of
30_encoding.md R62 and R76. -/
def Request.bytes (m : Model) : Request → List Byte
  | .memrd a => [0, a.extractLsb' 0 8, a.extractLsb' 8 8]
  | .memwr a v => [1, a.extractLsb' 0 8, a.extractLsb' 8 8, v]
  | .input p => [(portKey m p).extractLsb' 0 8, 0#4 ++ (portKey m p).extractLsb' 8 4]
  | .output p v => [(portKey m p).extractLsb' 0 8, 1#4 ++ (portKey m p).extractLsb' 8 4, v]
  | .lcdcmd v => [v]
  | .tick h => [bitByte h]
  | .reset i => [i]
  | .hostexit => []
  | .hostkeys k o => k.toList ++ [bitByte o]

/-- The interface whose rows have this many bits in opcode_table.json, in whole bytes for the rows of one byte or
more: 13 bits (16, or 24 with the data byte) are a port key, 8 an LCD command byte, 1 the memory `dir` (25 or more: with
its operands), none a tick. The one-bit memory rows rounded up to 8 bits cannot be told from LCD command bytes
(notes/assumptions/12.md). -/
def ifaceOfBits (nbits : Nat) : Iface :=
  if nbits = 0 then .tick
  else if nbits = 1 then .mem
  else if nbits ≤ 8 then .lcdcmd
  else if nbits ≤ 24 then .port
  else .mem

/-- `n` bytes of a number, the least significant first. -/
def bytesOf : Nat → Nat → List Byte
  | 0, _ => []
  | n + 1, w => BitVec.ofNat 8 w :: bytesOf n (w / 256)

/-- The instruction that the decoder reads from a table row's word: the word's bytes in order, then zeros. -/
def decodeTableWord (nbits w : Nat) : Option Instr :=
  match decode (ifaceOfBits nbits) (bytesOf 9 w) with
  | .ok (i, _) => some i
  | .error _ => none

end Sys2Proof
end

