-- ==== Sys2Proof/Machine/Fetch.lean ====
section
/-! DEFINITION. Fetch.lean: how the next operation reaches the decoder, and how one is placed there
(notes/assumptions/1.md, 10.md, 12.md to 15.md). -/

namespace Sys2Proof.Machine

/-- The state in which an operation is executed: it has left the list, and `UPERIOD` is at its level
(43_tick_sequencer.md R187). -/
def State.present (s : State) (e : Pending) (rest : List Pending) : State :=
  { s with pending := rest, uperiod := e.uperiod.getD s.uperiod }

/-- What the decoder reads from an operation: its bytes at its interface, a port key formed with the active model's tag
(30_encoding.md R62). -/
def fetchDecode (m : Model) (op : Request) : Except Reject (Instr × List Byte) :=
  decode op.iface (op.bytes m)

/-- The request that a table row's word stands for, at the interface of `ifaceOfBits`. -/
def requestOfBits (nbits w : Nat) : Request :=
  match ifaceOfBits nbits with
  | .mem =>
    if w % 2 = 0 then .memrd (BitVec.ofNat 16 (w / 256))
    else .memwr (BitVec.ofNat 16 (w / 256)) (BitVec.ofNat 8 (w / 0x1000000))
  | .port =>
    if w / 0x1000 % 2 = 0 then .input (BitVec.ofNat 8 w) else .output (BitVec.ofNat 8 w) (BitVec.ofNat 8 (w / 0x10000))
  | .lcdcmd => .lcdcmd (BitVec.ofNat 8 w)
  | .tick => .tick (w % 2 == 1)
  | .reset => .reset (BitVec.ofNat 8 w)
  | .hostexit => .hostexit
  | .hostkeys => .hostkeys (Vector.replicate 8 0xFF) false

/-- The model under which a table row's word is the row's key: the tag of a port key; for an LCD command a model with an
LCD controller (30_encoding.md R76). -/
def modelOfBits (nbits w : Nat) (m : Model) : Model :=
  match ifaceOfBits nbits with
  | .port => (Model.ofIndex (w / 0x100 % 0x10)).getD m
  | .lcdcmd => if m.cfg.hasLcdc then m else .m82
  | .mem => m
  | .tick => m
  | .reset => m
  | .hostexit => m
  | .hostkeys => m

/-- The block with this model active: as it is, or reset to the model, the only way the model changes
(70_reset_and_hazards.md R233). -/
def State.selectModel (s : State) (m : Model) : State := if s.model = m then s else s.resetTo m

/-- An operation placed first in the list. -/
def State.enqueue (s : State) (op : Request) : State := { s with pending := ⟨op, none⟩ :: s.pending }

end Sys2Proof.Machine
end

