-- ==== Sys2Proof/Machine/Step.lean ====
section
/-! DEFINITION. Step.lean: one step of the block: the next pending operation is presented, decoded and executed. -/

namespace Sys2Proof.Machine

/-- One step (00_scope.md R3): the next operation runs to completion. Without one the block stays as it is, since it
initiates nothing of its own (R4). -/
def step (s : State) : Host.Outcome State Fault Refusal :=
  match s.pending with
  | [] => .next s
  | e :: rest =>
    match fetchDecode s.model e.op with
    | .ok (i, _) => exec i (s.present e rest)
    | .error r => .refused (.undecodable r)

/-- The state whose next step runs the instruction of a table row's word: the model selected that the row's key names, and
the operation placed first (notes/assumptions/13.md). -/
def State.withFetchWord (s : State) (nbits w : Nat) : State :=
  (s.selectModel (modelOfBits nbits w s.model)).enqueue (requestOfBits nbits w)

end Sys2Proof.Machine
end

