-- ==== Sys2Proof/Safety.lean ====
section
/-! DEFINITION. Safety.lean: what every state of a run looks like, in the words of the spec's invariants, and the kinds of
operation that whole-machine rules speak of. -/

namespace Sys2Proof.Machine

/-- The invariant of the block: what the rules named say holds at every operation boundary after a reset. -/
structure State.Inv (s : State) : Prop where
  /-- `Page = Map(cfg, Ports)` (40_mapper.md R82) -/
  windows : s.page = mapPages s.model.cfg s.ports
  /-- RAM is in its one canonical form -/
  ramWf : Memory.wf s.ram = true
  /-- RAM has `RAM_SIZE` bytes (10_state.md R23) -/
  ramBound : ∀ c ∈ s.ram, c.1 < s.model.cfg.ramSize
  /-- every image is in canonical form -/
  imagesWf : ∀ m, Memory.wf (s.imageOf m).bytes = true
  /-- ROM holds `ROM_IMAGE` (10_state.md R22) -/
  romIsImage : s.rom = (s.imageOf s.model).bytes
  /-- the image has `ROM_SIZE` bytes (70_reset_and_hazards.md R232) -/
  imageFits : s.imageFits s.model = true
  /-- bits 7:4 of STATUS are 0 (10_state.md R15) -/
  statusHigh : s.ports[8] &&& 0xF0 = 0
  /-- `LINKRD` holds `LINK_IDLE` (10_state.md R17) -/
  link : s.ports[9] = s.linkIdle
  /-- `Ports[10]` stays 0 without `HAS_PAGEC` (10_state.md R19) -/
  pageC : s.model.cfg.hasPagec = false → s.ports[10] = 0
  /-- `Ports[5]` is unused with `HAS_PAGEC` (10_state.md R13, R21) -/
  port5 : s.model.cfg.hasPagec = true → s.ports[5] = 0
  /-- indices 11 to 31 hold 0 (10_state.md R21) -/
  reserved : ∀ i : Fin 32, 11 ≤ i.val → s.ports[i] = 0
  /-- bits 2, 3, 4 and 7 of LCD.status are 0 (10_state.md R26) -/
  lcdStatus : s.lcd.status &&& 0x9C = 0
  /-- byte 15 of a row holds 0 (10_state.md R25, 90_conflicts.md C5) -/
  lcdPadding : ∀ r, s.lcd.byteAt r 15 = 0
  /-- columns 20 to 31 are unreachable (42_lcd.md R158) -/
  lcdCol : s.lcd.col ≤ 19
  /-- without LCD controller no port reaches the LCD state (42_lcd.md R140) -/
  lcdAbsent : s.model.cfg.hasLcdc = false → s.lcd = Lcd.reset
  /-- the startup counter is never increased (10_state.md R32) -/
  startup : s.startupOn ≤ s.startupTicks

/-- The bound of the refresh counter, and what it takes of the levels driven on UPERIOD (10_state.md R34). -/
structure State.RefreshBounded (s : State) : Prop where
  level : s.uperiod ≤ Config.refreshThreshold
  coming : ∀ e ∈ s.pending, ∀ u, e.uperiod = some u → u ≤ Config.refreshThreshold
  count : s.uCount < Config.refreshThreshold

/-- The pixel `x` of row `r` of the buffer: bit `7 - (x mod 8)` of byte `x >> 3` (10_state.md R25). -/
def Lcd.pixel (l : Lcd) (r : BitVec 6) (x : Nat) : Bool := (l.byteAt r (x / 8)).getLsbD (7 - x % 8)

/-- The state after a list of operations executed in order, if none of them stops. -/
def execAll : List Instr → State → Option State
  | [], s => some s
  | i :: is, s =>
    match exec i s with
    | .next t => execAll is t
    | .fault _ => none
    | .refused _ => none

end Sys2Proof.Machine
end

