-- ==== Sys2Proof/Certificates/Slice0/Obligations.lean ====
section
/-! DEFINITION. Obligations.lean: the statements for the provers, from the numbered rules of spec/. The port rows of each
register class are listed first, so that one statement names all the rows of its class. -/

open Sys2Proof Sys2Proof.Machine

namespace Sys2Proof

/-- The IN.PLAIN rows: model, register-file index, operation (41_port_dispatch.md R101, R103). -/
def Rows.inPlain : List (Model × Fin 32 × Instr) :=
  [(.m85, 0, .inPlainM85_00), (.m85, 4, .inPlainM85_04), (.m85, 6, .inPlainM85_06), (.m86, 0, .inPlainM86_00),
   (.m86, 4, .inPlainM86_04), (.m82, 4, .inPlainM82_04), (.m82, 5, .inPlainM82_05), (.m82, 6, .inPlainM82_06),
   (.m82, 7, .inPlainM82_07), (.m83, 5, .inPlainM83_05), (.m83, 6, .inPlainM83_06), (.m83, 7, .inPlainM83_07),
   (.m83p, 2, .inPlainM83P_02), (.m83p, 5, .inPlainM83P_05), (.m83se, 2, .inPlainM83SE_02),
   (.m84p, 2, .inPlainM84P_02), (.m84se, 2, .inPlainM84SE_02)]

/-- The OUT.PLAIN rows (R101, R104). -/
def Rows.outPlain : List (Model × Fin 32 × (Byte → Instr)) :=
  [(.m85, 0, .outPlainM85_00), (.m85, 4, .outPlainM85_04), (.m85, 6, .outPlainM85_06),
   (.m86, 0, .outPlainM86_00), (.m86, 4, .outPlainM86_04), (.m82, 4, .outPlainM82_04),
   (.m82, 5, .outPlainM82_05), (.m82, 6, .outPlainM82_06), (.m82, 7, .outPlainM82_07),
   (.m83, 5, .outPlainM83_05), (.m83, 6, .outPlainM83_06), (.m83, 7, .outPlainM83_07),
   (.m83p, 2, .outPlainM83P_02), (.m83p, 5, .outPlainM83P_05), (.m83se, 2, .outPlainM83SE_02),
   (.m84p, 2, .outPlainM84P_02), (.m84se, 2, .outPlainM84SE_02)]

/-- The IN.KEYPAD rows (R101, R106). -/
def Rows.inKeypad : List (Model × Instr) :=
  [(.m85, .inKeypadM85_01), (.m86, .inKeypadM86_01), (.m82, .inKeypadM82_01), (.m83, .inKeypadM83_01),
   (.m83p, .inKeypadM83P_01), (.m83se, .inKeypadM83SE_01), (.m84p, .inKeypadM84P_01),
   (.m84se, .inKeypadM84SE_01)]

/-- The OUT.KEYPAD rows (R101, R105). -/
def Rows.outKeypad : List (Model × (Byte → Instr)) :=
  [(.m85, .outKeypadM85_01), (.m86, .outKeypadM86_01), (.m82, .outKeypadM82_01), (.m83, .outKeypadM83_01),
   (.m83p, .outKeypadM83P_01), (.m83se, .outKeypadM83SE_01), (.m84p, .outKeypadM84P_01),
   (.m84se, .outKeypadM84SE_01)]

/-- The IN.STATUS rows (R101, R107). -/
def Rows.inStatus : List (Model × Instr) :=
  [(.m85, .inStatusM85_03), (.m86, .inStatusM86_03), (.m82, .inStatusM82_03), (.m83, .inStatusM83_03),
   (.m83p, .inStatusM83P_04), (.m83se, .inStatusM83SE_04), (.m84p, .inStatusM84P_04),
   (.m84se, .inStatusM84SE_04)]

/-- The OUT.CONTROL rows (R101, R108). -/
def Rows.outControl : List (Model × (Byte → Instr)) :=
  [(.m85, .outControlM85_03), (.m86, .outControlM86_03), (.m82, .outControlM82_03), (.m83, .outControlM83_03),
   (.m83p, .outControlM83P_03), (.m83se, .outControlM83SE_03), (.m84p, .outControlM84P_03),
   (.m84se, .outControlM84SE_03)]

/-- The IN.CONTROL rows (R101, R109). -/
def Rows.inControl : List (Model × Instr) :=
  [(.m83p, .inControlM83P_03), (.m83se, .inControlM83SE_03), (.m84p, .inControlM84P_03),
   (.m84se, .inControlM84SE_03)]

/-- The OUT.MAPSEL rows (R101, R110). -/
def Rows.outMapsel : List (Model × (Byte → Instr)) :=
  [(.m83, .outMapselM83_04), (.m83p, .outMapselM83P_04), (.m83se, .outMapselM83SE_04),
   (.m84p, .outMapselM84P_04), (.m84se, .outMapselM84SE_04)]

/-- The IN.CONTRAST rows (R101, R111). -/
def Rows.inContrast : List (Model × Instr) :=
  [(.m85, .inContrastM85_02), (.m86, .inContrastM86_02)]

/-- The OUT.CONTRAST rows (R101, R111). -/
def Rows.outContrast : List (Model × (Byte → Instr)) :=
  [(.m85, .outContrastM85_02), (.m86, .outContrastM86_02)]

/-- The IN.LINK rows (R101, R112). -/
def Rows.inLink : List (Model × Instr) :=
  [(.m85, .inLinkM85_07), (.m86, .inLinkM86_07), (.m82, .inLinkM82_00), (.m83, .inLinkM83_00),
   (.m83p, .inLinkM83P_00), (.m83se, .inLinkM83SE_00), (.m84p, .inLinkM84P_00), (.m84se, .inLinkM84SE_00)]

/-- The OUT.LINK rows (R101, R113). -/
def Rows.outLink : List (Model × Fin 32 × (Byte → Instr)) :=
  [(.m85, 7, .outLinkM85_07), (.m86, 7, .outLinkM86_07), (.m82, 0, .outLinkM82_00), (.m83, 0, .outLinkM83_00),
   (.m83p, 0, .outLinkM83P_00), (.m83se, 0, .outLinkM83SE_00), (.m84p, 0, .outLinkM84P_00),
   (.m84se, 0, .outLinkM84SE_00)]

/-- The IN.PAGE rows (R101, R115). -/
def Rows.inPage : List (Model × Fin 32 × Instr) :=
  [(.m85, 5, .inPageM85_05), (.m86, 5, .inPageM86_05), (.m86, 6, .inPageM86_06), (.m82, 2, .inPageM82_02),
   (.m83, 2, .inPageM83_02), (.m83, 4, .inPageM83_04), (.m83p, 6, .inPageM83P_06), (.m83p, 7, .inPageM83P_07),
   (.m83se, 10, .inPageM83SE_05), (.m83se, 6, .inPageM83SE_06), (.m83se, 7, .inPageM83SE_07),
   (.m84p, 10, .inPageM84P_05), (.m84p, 6, .inPageM84P_06), (.m84p, 7, .inPageM84P_07),
   (.m84se, 10, .inPageM84SE_05), (.m84se, 6, .inPageM84SE_06), (.m84se, 7, .inPageM84SE_07)]

/-- The OUT.PAGE rows (R101, R114). -/
def Rows.outPage : List (Model × Fin 32 × (Byte → Instr)) :=
  [(.m85, 5, .outPageM85_05), (.m86, 5, .outPageM86_05), (.m86, 6, .outPageM86_06), (.m82, 2, .outPageM82_02),
   (.m83, 2, .outPageM83_02), (.m83p, 6, .outPageM83P_06), (.m83p, 7, .outPageM83P_07),
   (.m83se, 10, .outPageM83SE_05), (.m83se, 6, .outPageM83SE_06), (.m83se, 7, .outPageM83SE_07),
   (.m84p, 10, .outPageM84P_05), (.m84p, 6, .outPageM84P_06), (.m84p, 7, .outPageM84P_07),
   (.m84se, 10, .outPageM84SE_05), (.m84se, 6, .outPageM84SE_06), (.m84se, 7, .outPageM84SE_07)]

/-- The IN.LCDSTAT rows (R101, R117). -/
def Rows.inLcdstat : List (Model × Instr) :=
  [(.m82, .inLcdstatM82_10), (.m83, .inLcdstatM83_10), (.m83p, .inLcdstatM83P_10),
   (.m83se, .inLcdstatM83SE_10), (.m84p, .inLcdstatM84P_10), (.m84se, .inLcdstatM84SE_10)]

/-- The OUT.LCDCMD rows (R101, R117). -/
def Rows.outLcdcmd : List (Model × (Byte → Instr)) :=
  [(.m82, .outLcdcmdM82_10), (.m83, .outLcdcmdM83_10), (.m83p, .outLcdcmdM83P_10),
   (.m83se, .outLcdcmdM83SE_10), (.m84p, .outLcdcmdM84P_10), (.m84se, .outLcdcmdM84SE_10)]

/-- The IN.LCDDATA rows (R101, R117). -/
def Rows.inLcddata : List (Model × Instr) :=
  [(.m82, .inLcddataM82_11), (.m83, .inLcddataM83_11), (.m83p, .inLcddataM83P_11),
   (.m83se, .inLcddataM83SE_11), (.m84p, .inLcddataM84P_11), (.m84se, .inLcddataM84SE_11)]

/-- The OUT.LCDDATA rows (R101, R117). -/
def Rows.outLcddata : List (Model × (Byte → Instr)) :=
  [(.m82, .outLcddataM82_11), (.m83, .outLcddataM83_11), (.m83p, .outLcddataM83P_11),
   (.m83se, .outLcddataM83SE_11), (.m84p, .outLcddataM84P_11), (.m84se, .outLcddataM84SE_11)]

end Sys2Proof

/-! ### Decoding, encoding and the step -/

/-- A step presents the first pending operation and is `exec` of what its bytes decode to, in the state with the
operation removed from the list and UPERIOD at the operation's level. The list and the level are the model's
(notes/assumptions/1.md, 10.md). -/
def Obligations.StepRunsDecodedOperation : Prop :=
  ∀ (s : State) (e : Pending) (rest : List Pending) (i : Instr) (bs : List Byte),
    s.pending = e :: rest → decode e.op.iface (e.op.bytes s.model) = .ok (i, bs) → i.wellFormed = true →
    step s = exec i { s with pending := rest, uperiod := e.uperiod.getD s.uperiod }

/-- Without a pending operation a step changes nothing (00_scope.md R4: the block initiates nothing between operations;
that the model then stays as it is: notes/assumptions/1.md). -/
def Obligations.IdleStepChangesNothing : Prop :=
  ∀ s : State, s.pending = [] → step s = .next s

/-- Every operation that can be presented decodes to one instruction and no byte is left over; the instruction is
well-formed unless it is a RESET with an index above 7 (30_encoding.md R69). The layout of the operand bytes is the model's
(notes/assumptions/11.md). -/
def Obligations.EveryRequestDecodes : Prop :=
  ∀ (m : Model) (op : Request), ∃ i,
    decode op.iface (op.bytes m) = .ok (i, []) ∧ ((∀ k, op = .reset k → k.toNat < 8) → i.wellFormed = true)

/-- Decoding the bytes of a well-formed instruction gives it back, with the bytes after it. The keys and the fields are
the spec's (R65 to R67, R76); the layout of the operand bytes, and that the ignored bits of an LCD command byte are operands
that come back too, are the model's (notes/assumptions/11.md, 16.md). -/
def Obligations.DecodeOfEncodeIsIdentity : Prop :=
  ∀ (i : Instr) (rest : List Byte), i.wellFormed = true → decode i.iface (encode i ++ rest) = .ok (i, rest)

/-- Whatever bytes decode, the instruction's own encoding is those bytes: no bit of an operation is dropped. The keys and
the fields are the spec's (R65 to R67, R76). That no bit is dropped rests on two choices of the model: the ignored bits of an
LCD command byte are kept as operands, where R68 only says that they take no part (notes/assumptions/16.md); the operand bytes
have the model's layout, and bytes with a spare bit set do not decode (notes/assumptions/11.md). -/
def Obligations.EncodeOfDecodeIsIdentity : Prop :=
  ∀ (f : Iface) (bs : List Byte) (i : Instr) (rest : List Byte),
    decode f bs = .ok (i, rest) → i.iface = f ∧ encode i ++ rest = bs

/-- Words written out from 30_encoding.md R66 and R76 decode to the operations they stand for; the MEM and TICK bytes are
in the model's layout (notes/assumptions/11.md). -/
def Obligations.SampleWordsDecode : Prop :=
  decode .port [0x06, 0x14, 0x03] = .ok (.outPageM83P_06 0x03, []) ∧
  decode .port [0x04, 0x04] = .ok (.inStatusM83P_04, []) ∧
  decode .port [0x10, 0x01] = .ok (.inUnmapped 1 0x10, []) ∧
  decode .port [0x11, 0x17, 0x3F] = .ok (.outLcddataM84SE_11 0x3F, []) ∧
  decode .lcdcmd [0b10001010] = .ok (.lcdSetrow 10, []) ∧
  decode .lcdcmd [0b00110101] = .ok (.lcdSetcol 1 5, []) ∧
  decode .lcdcmd [0b00001011] = .ok (.lcdOn 1, []) ∧
  decode .mem [0x01, 0x23, 0x81, 0x77] = .ok (.memwr 0x8123 0x77, []) ∧
  decode .tick [0x01] = .ok (.tick true, [])

/-- A key decodes to its default row exactly when its model does not map the address (30_encoding.md R76, 20_memory.md
R54); a tag no model has maps nothing (notes/assumptions/15.md). -/
def Obligations.DefaultRowsAreTheUnmappedKeys : Prop :=
  ∀ (tag : BitVec 4) (p v : Byte),
    (inRow tag p = .inUnmapped tag p ↔ portMapped tag p = false) ∧
    (outRow tag p v = .outUnmapped tag p v ↔ portMapped tag p = false)

/-! ### The dispatch of a port transaction -/

/-- The row that an IN decodes to on the active model does what the three steps of 41_port_dispatch.md R100 do: the class
of the address by R101, then the class's read behaviour. -/
def Obligations.DecodedInFollowsPortMap : Prop :=
  ∀ (s : State) (p : Byte), exec (inRow (tagField s.model) p) s = .next (portRead p s)

/-- The same for an OUT. -/
def Obligations.DecodedOutFollowsPortMap : Prop :=
  ∀ (s : State) (p v : Byte), exec (outRow (tagField s.model) p v) s = .next (portWrite p v s)

/-- The LCD command that a byte decodes to does what an OUT of the byte to port 0x10 does, on every model
(30_encoding.md R75); on a model without LCD controller that reading is the model's (notes/assumptions/4.md). -/
def Obligations.LcdCommandIsOutToPort10 : Prop :=
  ∀ (s : State) (v : Byte), exec (lcdRow v) s = .next (portWrite 0x10 v s)

/-! ### Port rows: each completes, with the effect and the frame of its class

The fields `result` and `strobe` carry what an operation returns and emits (00_scope.md R5, R6); that they hold it until
the next operation is the model's choice (notes/assumptions/2.md). -/

/-- IN.PLAIN (R103). -/
def Obligations.InPlainReturnsRegister : Prop :=
  ∀ r ∈ Rows.inPlain, ∀ s : State, s.model = r.1 →
    exec r.2.2 s = .next { s with result := some (.byte s.ports[r.2.1]), strobe := none }

/-- OUT.PLAIN (R104). -/
def Obligations.OutPlainStoresByte : Prop :=
  ∀ r ∈ Rows.outPlain, ∀ (s : State) (v : Byte), s.model = r.1 →
    exec (r.2.2 v) s = .next { s with ports := s.ports.set r.2.1 v, result := none, strobe := none }

/-- OUT.KEYPAD (R105). -/
def Obligations.OutKeypadStoresSelect : Prop :=
  ∀ r ∈ Rows.outKeypad, ∀ (s : State) (v : Byte), s.model = r.1 →
    exec (r.2 v) s = .next { s with ports := s.ports.set 1 v, result := none, strobe := none }

/-- IN.KEYPAD (R106): a bit of the scan is 1 exactly when it is 1 in every row whose select bit is 0. -/
def Obligations.InKeypadScansSelectedRows : Prop :=
  ∀ r ∈ Rows.inKeypad, ∀ s : State, s.model = r.1 →
    ∃ b : Byte, exec r.2 s = .next { s with result := some (.byte b), strobe := none } ∧
      ∀ j : Fin 8, b.getLsbD j.val =
        decide (∀ i : Fin 8, s.ports[1].getLsbD i.val = false → s.keyRow[i].getLsbD j.val = true)

/-- IN.STATUS (R107). -/
def Obligations.InStatusReturnsStatus : Prop :=
  ∀ r ∈ Rows.inStatus, ∀ s : State, s.model = r.1 →
    exec r.2 s = .next { s with result := some (.byte s.ports[8]), strobe := none }

/-- OUT.CONTROL (R108). -/
def Obligations.OutControlStoresControl : Prop :=
  ∀ r ∈ Rows.outControl, ∀ (s : State) (v : Byte), s.model = r.1 →
    exec (r.2 v) s = .next { s with ports := s.ports.set 3 v, result := none, strobe := none }

/-- IN.CONTROL (R109). -/
def Obligations.InControlReturnsControl : Prop :=
  ∀ r ∈ Rows.inControl, ∀ s : State, s.model = r.1 →
    exec r.2 s = .next { s with result := some (.byte s.ports[3]), strobe := none }

/-- OUT.MAPSEL (R110): the byte is stored, then the windows are computed from the new register file. -/
def Obligations.OutMapselStoresAndRemaps : Prop :=
  ∀ r ∈ Rows.outMapsel, ∀ (s : State) (v : Byte), s.model = r.1 →
    exec (r.2 v) s = .next { s with ports := s.ports.set 4 v, page := mapPages s.model.cfg (s.ports.set 4 v),
                                    result := none, strobe := none }

/-- OUT.CONTRAST and IN.CONTRAST (R111). -/
def Obligations.ContrastPortStoresStrobesAndReads : Prop :=
  (∀ r ∈ Rows.outContrast, ∀ (s : State) (v : Byte), s.model = r.1 →
    exec (r.2 v) s = .next { s with ports := s.ports.set 2 v, result := none, strobe := some (.colourRecompute v) }) ∧
  (∀ r ∈ Rows.inContrast, ∀ s : State, s.model = r.1 →
    exec r.2 s = .next { s with result := some (.byte s.ports[2]), strobe := none })

/-- IN.LINK (R112): the link read register, and by the invariant of its value `LINK_IDLE`, whatever was written. -/
def Obligations.InLinkReturnsIdle : Prop :=
  ∀ r ∈ Rows.inLink, ∀ s : State, s.model = r.1 →
    exec r.2 s = .next { s with result := some (.byte s.ports[9]), strobe := none } ∧
    (s.Inv → exec r.2 s = .next { s with result := some (.byte s.linkIdle), strobe := none })

/-- OUT.LINK (R113): the byte is stored, and on M83 the windows are computed anew. -/
def Obligations.OutLinkStoresAndRemapsOnM83 : Prop :=
  ∀ r ∈ Rows.outLink, ∀ (s : State) (v : Byte), s.model = r.1 →
    exec (r.2.2 v) s = .next { s with ports := s.ports.set r.2.1 v, result := none, strobe := none,
                                      page := if s.model = .m83 then mapPages s.model.cfg (s.ports.set r.2.1 v) else s.page }

/-- OUT.PAGE (R114): the byte is stored, then the windows are computed from the new register file. -/
def Obligations.OutPageStoresAndRemaps : Prop :=
  ∀ r ∈ Rows.outPage, ∀ (s : State) (v : Byte), s.model = r.1 →
    exec (r.2.2 v) s = .next { s with ports := s.ports.set r.2.1 v, page := mapPages s.model.cfg (s.ports.set r.2.1 v),
                                      result := none, strobe := none }

/-- IN.PAGE (R115). -/
def Obligations.InPageReturnsRegister : Prop :=
  ∀ r ∈ Rows.inPage, ∀ s : State, s.model = r.1 →
    exec r.2.2 s = .next { s with result := some (.byte s.ports[r.2.1]), strobe := none }

/-- IN.UNMAPPED and OUT.UNMAPPED (R118, R119), at every address that 20_memory.md R54 leaves unmapped on the active model. -/
def Obligations.UnmappedPortsReadFFAndIgnoreWrites : Prop :=
  ∀ (s : State) (p v : Byte), portMapped (tagField s.model) p = false →
    exec (.inUnmapped (tagField s.model) p) s = .next { s with result := some (.byte 0xFF), strobe := none } ∧
    exec (.outUnmapped (tagField s.model) p v) s = .next { s with result := none, strobe := none }

/-! ### The LCD controller -/

/-- IN.LCDSTAT (R160). -/
def Obligations.InLcdstatReturnsLcdStatus : Prop :=
  ∀ r ∈ Rows.inLcdstat, ∀ s : State, s.model = r.1 →
    exec r.2 s = .next { s with result := some (.byte s.lcd.status), strobe := none }

/-- The address and level commands (R143 to R146) on a model with LCD controller: the operand is stored, the delay flag is
armed, nothing else changes; the set-column command takes the low four bits. -/
def Obligations.LcdAddressCommandsStoreOperand : Prop :=
  ∀ s : State, s.model.cfg.hasLcdc = true →
    (∀ r, exec (.lcdSetrow r) s =
      .next { s with lcd := { s.lcd with row := r, delay := true }, result := none, strobe := none }) ∧
    (∀ z, exec (.lcdSetscroll z) s =
      .next { s with lcd := { s.lcd with scroll := z, delay := true }, result := none, strobe := none }) ∧
    (∀ x y, exec (.lcdSetcol x y) s =
      .next { s with lcd := { s.lcd with col := y.setWidth 5, delay := true }, result := none, strobe := none }) ∧
    (∀ c, exec (.lcdSetcontrast c) s =
      .next { s with lcd := { s.lcd with contrast := c, delay := true }, result := none,
                     strobe := some (.colourRecompute (c.setWidth 8)) })

/-- The eight commands of the L-OP format (R147 to R154) on a model with LCD controller: each writes its own status bits,
keeps the others, arms the delay flag, and changes nothing else, whatever the ignored bits are. -/
def Obligations.LcdOpcodeCommandsWriteStatusBits : Prop :=
  ∀ (s : State) (x : BitVec 2), s.model.cfg.hasLcdc = true →
    ∀ r ∈ [(Instr.lcdMode6 x, (0x40 : Byte), (0x00 : Byte)), (.lcdMode8 x, 0x40, 0x40), (.lcdOff x, 0x20, 0x00),
           (.lcdOn x, 0x20, 0x20), (.lcdDirRowdec x, 0x03, 0x00), (.lcdDirRowinc x, 0x03, 0x01),
           (.lcdDirColdec x, 0x03, 0x02), (.lcdDirColinc x, 0x03, 0x03)],
      ∃ st : Byte,
        exec r.1 s = .next { s with lcd := { s.lcd with status := st, delay := true }, result := none, strobe := none } ∧
        ∀ j : Fin 8, st.getLsbD j.val =
          if r.2.1.getLsbD j.val then r.2.2.getLsbD j.val else s.lcd.status.getLsbD j.val

/-- On a model without LCD controller an LCD command is an OUT to an unmapped port: nothing changes (R140, R119; that the
command's row is then that OUT: notes/assumptions/4.md). -/
def Obligations.LcdCommandsWithoutControllerChangeNothing : Prop :=
  ∀ (s : State) (v : Byte), s.model.cfg.hasLcdc = false →
    exec (lcdRow v) s = .next { s with result := none, strobe := none }

/-- OUT.LCDCMD (R141, R142): it completes with the effect of the one command its byte is, changes nothing but the LCD
controller and the outputs, leaves the buffer, and arms the delay flag. -/
def Obligations.OutLcdcmdRunsTheCommand : Prop :=
  ∀ r ∈ Rows.outLcdcmd, ∀ (s : State) (v : Byte), s.model = r.1 →
    ∃ t, exec (r.2 v) s = .next t ∧ exec (lcdRow v) s = .next t ∧
      t = { s with lcd := t.lcd, result := none, strobe := t.strobe } ∧
      t.lcd.buf = s.lcd.buf ∧ t.lcd.delay = true

/-- IN.LCDDATA (R155) with the delay flag armed: 0 is returned, the flag is consumed, nothing else changes. -/
def Obligations.LcdReadAfterCommandIsDummy : Prop :=
  ∀ r ∈ Rows.inLcddata, ∀ s : State, s.model = r.1 → s.lcd.delay = true →
    exec r.2 s = .next { s with lcd := { s.lcd with delay := false }, result := some (.byte 0x00), strobe := none }

/-- IN.LCDDATA (R155) with the delay flag clear: the cursor steps and the byte returned is, in 8-bit mode, the buffer byte
under the cursor (0 beyond column 14) and, in 6-bit mode, the six pixels of the column in bits 5:0, leftmost in bit 5, with
bits 7:6 zero (0 beyond column 19). -/
def Obligations.LcdReadReturnsPixels : Prop :=
  ∀ r ∈ Rows.inLcddata, ∀ s : State, s.model = r.1 → s.lcd.delay = false →
    ∃ d : Byte,
      exec r.2 s = .next { s with lcd := s.lcd.advance, result := some (.byte d), strobe := none } ∧
      (s.lcd.status.getLsbD 6 = true → s.lcd.col.toNat ≤ 14 → d = s.lcd.byteAt s.lcd.row s.lcd.col.toNat) ∧
      (s.lcd.status.getLsbD 6 = true → 14 < s.lcd.col.toNat → d = 0x00) ∧
      (s.lcd.status.getLsbD 6 = false → s.lcd.col.toNat ≤ 19 → d.getLsbD 6 = false ∧ d.getLsbD 7 = false ∧
        ∀ j, j < 6 → d.getLsbD j = s.lcd.pixel s.lcd.row (6 * s.lcd.col.toNat + (5 - j))) ∧
      (s.lcd.status.getLsbD 6 = false → 19 < s.lcd.col.toNat → d = 0x00)

/-- OUT.LCDDATA (R156) in 8-bit mode: exactly the byte under the cursor is stored (none beyond column 14), then the cursor
steps; nothing else changes. -/
def Obligations.LcdWriteStoresByte : Prop :=
  ∀ r ∈ Rows.outLcddata, ∀ (s : State) (v : Byte), s.model = r.1 → s.lcd.status.getLsbD 6 = true →
    ∃ l : Lcd, exec (r.2 v) s = .next { s with lcd := l.advance, result := none, strobe := none } ∧
      l = { s.lcd with buf := l.buf } ∧
      ∀ (y : BitVec 6) (b : Nat), b < 16 →
        l.byteAt y b =
          if y = s.lcd.row ∧ b = s.lcd.col.toNat ∧ s.lcd.col.toNat ≤ 14 then v else s.lcd.byteAt y b

/-- OUT.LCDDATA (R156, R159) in 6-bit mode: exactly the six pixels of the column take bits 5:0 of the byte, leftmost from
bit 5 (none beyond column 19), then the cursor steps; nothing else changes, the padding byte included. -/
def Obligations.LcdWriteStoresSixPixels : Prop :=
  ∀ r ∈ Rows.outLcddata, ∀ (s : State) (v : Byte), s.model = r.1 → s.lcd.status.getLsbD 6 = false →
    ∃ l : Lcd, exec (r.2 v) s = .next { s with lcd := l.advance, result := none, strobe := none } ∧
      l = { s.lcd with buf := l.buf } ∧
      ∀ (y : BitVec 6) (x : Nat), x < 128 →
        l.pixel y x =
          if y = s.lcd.row ∧ s.lcd.col.toNat ≤ 19 ∧ 6 * s.lcd.col.toNat ≤ x ∧ x < 6 * s.lcd.col.toNat + 6 then
            v.getLsbD (5 - (x - 6 * s.lcd.col.toNat))
          else s.lcd.pixel y x

/-- `Advance()` (R157): rows wrap 0 to 63 and 63 to 0; a column decrement masked to 5 bits goes to the boundary when it
exceeds it, a column increment to 0. Only one of row and column moves. -/
def Obligations.AdvanceStepsTheCursor : Prop :=
  ∀ l : Lcd, ∃ b : Nat, (b = if l.status.getLsbD 6 then 14 else 19) ∧
    (l.status.extractLsb' 0 2 = 0 →
      l.advance = { l with row := l.advance.row } ∧
      l.advance.row.toNat = if l.row.toNat = 0 then 63 else l.row.toNat - 1) ∧
    (l.status.extractLsb' 0 2 = 1 →
      l.advance = { l with row := l.advance.row } ∧
      l.advance.row.toNat = if l.row.toNat = 63 then 0 else l.row.toNat + 1) ∧
    (l.status.extractLsb' 0 2 = 2 →
      l.advance = { l with col := l.advance.col } ∧
      l.advance.col.toNat = if l.col.toNat = 0 ∨ b < l.col.toNat - 1 then b else l.col.toNat - 1) ∧
    (l.status.extractLsb' 0 2 = 3 →
      l.advance = { l with col := l.advance.col } ∧
      l.advance.col.toNat = if l.col.toNat = 31 ∨ b < l.col.toNat + 1 then 0 else l.col.toNat + 1)

/-- After any LCD command, the first data read returns 0 and leaves the cursor, and the second returns the datum under the
cursor and advances it (R142, R155, R240). -/
def Obligations.OneDummyReadAfterAnyCommand : Prop :=
  ∀ r ∈ Rows.inLcddata, ∀ (s : State) (v : Byte), s.model = r.1 →
    ∃ t u w : State,
      exec (lcdRow v) s = .next t ∧
      exec r.2 t = .next u ∧ u.result = some (.byte 0x00) ∧ u.lcd = { t.lcd with delay := false } ∧
      exec r.2 u = .next w ∧ w.result = some (.byte t.lcd.datum) ∧
      w.lcd = ({ t.lcd with delay := false } : Lcd).advance

/-- A byte written under the cursor is read back once the cursor is set there again and the dummy read is done: whole in
8-bit mode up to column 14, its low six bits in 6-bit mode up to column 15, the last that the set-column command reaches
(R145, R155, R156). -/
def Obligations.LcdWriteThenReadBack : Prop :=
  ∀ rd ∈ Rows.inLcddata, ∀ wr ∈ Rows.outLcddata, ∀ (s : State) (v : Byte) (x : BitVec 1),
    s.model = rd.1 → s.model = wr.1 → s.lcd.col.toNat ≤ (if s.lcd.status.getLsbD 6 then 14 else 15) →
    ∃ t, execAll [wr.2 v, .lcdSetrow s.lcd.row, .lcdSetcol x (s.lcd.col.setWidth 4), rd.2, rd.2] s = some t ∧
      t.result = some (.byte (if s.lcd.status.getLsbD 6 then v else v &&& 0x3F))

/-! ### The memory port -/

/-- MEMRD (R44): it returns the byte of the selected window's arena at the arena index and changes nothing else. An index
that lists no byte reads as the open parameter, whatever it is (notes/assumptions/5.md, 6.md). -/
def Obligations.MemrdReturnsTheWindowsByte : Prop :=
  ∀ (s : State) (a : Addr) (g : Page) (i : Nat),
    g = s.page[(a.extractLsb' 14 2).toNat]'(a.extractLsb' 14 2).isLt → i = g.off + (a.extractLsb' 0 14).toNat →
    i < arenaSize s.model.cfg g.arena →
    exec (.memrd a) s = .next { s with
      result := some (.byte (match g.arena with
        | .rom => (Memory.read s.rom i).getD (Config.romImage s.model i)
        | .ram => (Memory.read s.ram i).getD (Config.ramInit s.model i)))
      strobe := none }

/-- MEMWR (R45): through a RAM window exactly one byte of RAM changes, through a ROM window nothing does; every address that
shows the written byte, through whichever window, reads it at once, and every other address reads as before. -/
def Obligations.MemwrWritesOneRamByteOrNothing : Prop :=
  ∀ (s : State) (a : Addr) (v : Byte) (g : Page) (i : Nat),
    g = s.page[(a.extractLsb' 14 2).toNat]'(a.extractLsb' 14 2).isLt → i = g.off + (a.extractLsb' 0 14).toNat →
    (g.arena = .rom → exec (.memwr a v) s = .next { s with result := none, strobe := none }) ∧
    (g.arena = .ram → i < s.model.cfg.ramSize →
      ∃ t, exec (.memwr a v) s = .next t ∧ t = { s with ram := t.ram, result := none, strobe := none } ∧
        (∀ j, Memory.read t.ram j = if j = i then some v else Memory.read s.ram j) ∧
        (∀ b : Addr, t.peek b =
          if (s.pageOf b).arena = .ram ∧ s.arenaIndex b = i then v else s.peek b))

/-- In every state of a run each memory address has a byte: its arena index lies in its arena (R43, R83). -/
def Obligations.EveryAddressIsInItsArena : Prop :=
  ∀ (s : State) (a : Addr), s.Inv →
    s.arenaIndex a < arenaSize s.model.cfg (s.pageOf a).arena ∧
    exec (.memrd a) s = .next { s with result := some (.byte (s.peek a)), strobe := none }

/-! ### The mapper, for every power-of-two arena size of at least 0x8000 -/

/-- Every window offset is a multiple of the window size inside its arena, for every register file and family, and a page
beyond its arena wraps: its offset is the page modulo the number of pages, times the window size (R83). -/
def Obligations.WindowsStayInsideTheirArenas : Prop :=
  (∀ (c : Cfg) (j k : Nat) (ports : Vector Byte 32) (w : Fin 4), 15 ≤ j → 15 ≤ k → c.romSize = 2 ^ j → c.ramSize = 2 ^ k →
    (mapPages c ports)[w].off % 0x4000 = 0 ∧
    (mapPages c ports)[w].off + 0x3FFF < arenaSize c (mapPages c ports)[w].arena) ∧
  (∀ (page j : Nat), 15 ≤ j → pageOff page (2 ^ j) = page % (2 ^ j / 0x4000) * 0x4000)

/-- Family A (R84): windows 0, 2 and 3 are fixed, window 1 shows the ROM page in bits 3:0 of the page register. -/
def Obligations.FamilyAWindows : Prop :=
  ∀ (c : Cfg) (n : Fin 32) (ports : Vector Byte 32), c.family = .A n →
    mapPages c ports =
      #v[⟨.rom, pageOff 0 c.romSize⟩, ⟨.rom, pageOff (ports[n].toNat % 16) c.romSize⟩,
         ⟨.ram, pageOff 0 c.ramSize⟩, ⟨.ram, pageOff 1 c.ramSize⟩]

/-- Family B (R85): windows 1 and 2 show RAM page bits 2:0 or ROM page bits 3:0 by bit 6 of their registers. -/
def Obligations.FamilyBWindows : Prop :=
  ∀ (c : Cfg) (ports : Vector Byte 32) (sel : Byte → Page), c.family = .B →
    (∀ g : Byte, sel g = if g.toNat / 64 % 2 = 1 then ⟨.ram, pageOff (g.toNat % 8) c.ramSize⟩
                         else ⟨.rom, pageOff (g.toNat % 16) c.romSize⟩) →
    mapPages c ports = #v[⟨.rom, pageOff 0 c.romSize⟩, sel ports[5], sel ports[6], ⟨.ram, pageOff 0 c.ramSize⟩]

/-- Family C (R86): the four combinations of the map-select bit of Ports[4] and the page-select bit of Ports[2]. -/
def Obligations.FamilyCWindows : Prop :=
  ∀ (c : Cfg) (ports : Vector Byte 32) (p q m d : Nat), c.family = .C →
    p = ports[2].toNat % 8 → q = 8 * (ports[0].toNat / 16 % 2) + p → m = ports[4].toNat % 2 → d = ports[2].toNat / 128 →
    mapPages c ports =
      #v[⟨.rom, pageOff 0 c.romSize⟩,
         if m = 0 then ⟨.rom, pageOff q c.romSize⟩ else ⟨.ram, pageOff 0 c.ramSize⟩,
         if d = 0 then ⟨.ram, pageOff 1 c.ramSize⟩
         else if m = 0 then ⟨.rom, pageOff q c.romSize⟩ else ⟨.rom, pageOff p c.romSize⟩,
         ⟨.ram, pageOff 0 c.ramSize⟩]

/-- Family D (R88 to R90): in map state 0 windows 1 and 2 show page A and page B and window 3 RAM page `PAGEC`; in map
state 1 windows 1 and 2 show the even and odd page of page A's pair and window 3 page B. -/
def Obligations.FamilyDWindows : Prop :=
  ∀ (c : Cfg) (b : Nat) (x : Bool) (ports : Vector Byte 32) (sel : Byte → Page), c.family = .D b x → b < 8 →
    (∀ g : Byte, sel g = if g.toNat / 2 ^ b % 2 = 1 then ⟨.ram, pageOff (g.toNat % 2 ^ b) c.ramSize⟩
                         else ⟨.rom, pageOff (g.toNat % 2 ^ b) c.romSize⟩) →
    mapPages c ports =
      if ports[4].toNat % 2 = 0 then
        #v[⟨.rom, pageOff 0 c.romSize⟩, sel ports[6], sel ports[7], ⟨.ram, pageOff ports[10].toNat c.ramSize⟩]
      else
        #v[⟨.rom, pageOff 0 c.romSize⟩, sel (BitVec.ofNat 8 (ports[6].toNat / 2 * 2)),
           sel (BitVec.ofNat 8 (ports[6].toNat / 2 * 2 + 1)), sel ports[7]]

/-! ### The tick sequencer -/

/-- TICK (R180 to R189), the five steps in order, and the frame: nothing but `ExitNow`, `StartupOn`, STATUS, `UCount` and
the outputs changes. -/
def Obligations.TickRunsItsFiveSteps : Prop :=
  ∀ (s : State) (h on quit : Bool) (st : Byte) (n : Nat),
    quit = (s.exitNow || decide (s.ports[3].toNat % 16 = 1 ∧ s.startupOn = 0 ∧ h = true)) →
    on = decide (s.onKey = true ∨ s.startupOn ≠ 0) →
    (∀ j : Fin 8, st.getLsbD j.val =
      if j = 0 then s.ports[3].getLsbD 0 && on
      else if j = 1 then s.ports[3].getLsbD 1
      else if j = 2 then s.ports[3].getLsbD 2
      else if j = 3 then !on
      else false) →
    n = s.uCount + s.uperiod →
    exec (.tick h) s = .next { s with
      exitNow := quit
      startupOn := s.startupOn - 1
      ports := s.ports.set 8 st
      uCount := if 40000 ≤ n then n - 40000 else n
      strobe := if 40000 ≤ n then some .refresh else none
      result := some (.tick (if quit then .quit else if st.toNat % 8 ≠ 0 then .irq else .none)) }

/-- Once `ExitNow` is set, every operation but RESET keeps it, and every tick returns QUIT (R33, R213). It speaks of every
instruction on every model: that a port row of another model than the active one acts as the active model's dispatch of its
address, and so keeps `ExitNow` too, is the model's choice (notes/assumptions/3.md). A RESET that is not accepted is
`Obligations.RefusedResetLeavesTheBlock`. -/
def Obligations.QuitIsStickyUntilReset : Prop :=
  ∀ (i : Instr) (s t : State), s.exitNow = true → exec i s = .next t → (∀ m, i ≠ .reset m) →
    t.exitNow = true ∧ (∀ h, i = .tick h → t.result = some (.tick .quit))

/-- Over any run of ticks the startup counter falls by one a tick and stops at 0, and a tick sees the ON key as held (bit 3
of STATUS is 0) exactly while the key is pressed or the counter has not run out before it (R183 to R185, D13). -/
def Obligations.GracePeriodLastsStartupOnTicks : Prop :=
  ∀ (hs : List Bool) (h : Bool) (s : State),
    ∃ t, execAll ((hs ++ [h]).map Instr.tick) s = some t ∧ t.startupOn = s.startupOn - (hs.length + 1) ∧
      t.ports[8].getLsbD 3 = !(s.onKey || decide (hs.length < s.startupOn))

/-- Over any run of ticks at one level of UPERIOD, no more than the threshold, no part of the count is lost: after `n + 1`
ticks the counter is the whole sum modulo the threshold, and the last tick strobed Refresh exactly when the sum crossed a
multiple of the threshold in it (R187). -/
def Obligations.RefreshCountKeepsTheRemainder : Prop :=
  ∀ (hs : List Bool) (h : Bool) (s : State), s.uperiod ≤ 40000 → s.uCount < 40000 →
    ∃ t, execAll ((hs ++ [h]).map Instr.tick) s = some t ∧
      t.uCount = (s.uCount + (hs.length + 1) * s.uperiod) % 40000 ∧
      (t.strobe = some .refresh ↔
        (s.uCount + hs.length * s.uperiod) / 40000 < (s.uCount + (hs.length + 1) * s.uperiod) / 40000)

/-- HOSTEXIT sets `ExitNow` and nothing else (R190); HOSTKEYS drives the key rows and the ON key and nothing else (R31). -/
def Obligations.HostOperationsChangeOnlyTheirInputs : Prop :=
  (∀ s : State, exec .hostexit s = .next { s with exitNow := true, result := none, strobe := none }) ∧
  (∀ (s : State) (k : Vector Byte 8) (o : Bool),
    exec (.hostkeys k o) s = .next { s with keyRow := k, onKey := o, result := none, strobe := none })

/-! ### Reset -/

/-- RESET (R230) to each of the eight models, with an image of the model's size: every piece of state is as the rule's
pseudocode says, the host's inputs and the open parameters stay. That the images stay and that the operations still to be
presented stay is the model's choice (notes/assumptions/6.md, 1.md). -/
def Obligations.ResetSetsEveryPieceOfState : Prop :=
  ∀ r ∈ [((0 : Byte), Model.m85), (1, .m86), (2, .m82), (3, .m83), (4, .m83p), (5, .m83se), (6, .m84p), (7, .m84se)],
    ∀ s : State, s.romImages[r.2.index].size = r.2.cfg.romSize →
      exec (.reset r.1) s = .next { s with
        model := r.2
        rom := s.romImages[r.2.index].bytes
        ram := []
        ports := (Vector.replicate 32 0x00).set 9 s.linkIdle
        page := mapPages r.2.cfg ((Vector.replicate 32 0x00).set 9 s.linkIdle)
        lcd := { buf := Vector.replicate 64 (Vector.replicate 16 0x00), status := 0x00, row := 0, col := 0,
                 delay := false, scroll := 0, contrast := 0x1F }
        startupOn := s.startupTicks
        exitNow := false
        uCount := 0
        result := none
        strobe := none }

/-- The windows after reset (R97). -/
def Obligations.WindowsAfterReset : Prop :=
  ∀ (v : Byte), ∀ r ∈ [(Model.m85, (⟨.rom, 0⟩ : Page), (⟨.ram, 0⟩ : Page), (⟨.ram, 0x4000⟩ : Page)),
      (.m82, ⟨.rom, 0⟩, ⟨.ram, 0⟩, ⟨.ram, 0x4000⟩), (.m86, ⟨.rom, 0⟩, ⟨.rom, 0⟩, ⟨.ram, 0⟩),
      (.m83, ⟨.rom, 0⟩, ⟨.ram, 0x4000⟩, ⟨.ram, 0⟩), (.m83p, ⟨.rom, 0⟩, ⟨.rom, 0⟩, ⟨.ram, 0⟩),
      (.m83se, ⟨.rom, 0⟩, ⟨.rom, 0⟩, ⟨.ram, 0⟩), (.m84p, ⟨.rom, 0⟩, ⟨.rom, 0⟩, ⟨.ram, 0⟩),
      (.m84se, ⟨.rom, 0⟩, ⟨.rom, 0⟩, ⟨.ram, 0⟩)],
    mapPages r.1.cfg ((Vector.replicate 32 0x00).set 9 v) = #v[⟨.rom, 0⟩, r.2.1, r.2.2.1, r.2.2.2]

/-- A RESET with an index above 7, or with an image of another size than the model's, is not accepted: the block stays as it
was and reports it. That it reports it in its result is the model's choice (notes/assumptions/7.md). -/
def Obligations.RefusedResetLeavesTheBlock : Prop :=
  (∀ (m : Byte) (s : State), 8 ≤ m.toNat →
    exec (.reset m) s = .next { s with result := some .refused, strobe := none }) ∧
  (∀ (m : Byte) (k : Model) (s : State), k.index.val = m.toNat → s.romImages[k.index].size ≠ k.cfg.romSize →
    exec (.reset m) s = .next { s with result := some .refused, strobe := none })

/-! ### Whole-machine rules -/

/-- `State.reset` meets the invariant. That state is the model's choice: RESET 0 (M85), before the first HOSTKEYS, with
`STARTUP_TICKS` 50, `LINK_IDLE` 0x03 and UPERIOD 100, the spec's suggested defaults for open parameters, and images with no
byte listed (notes/assumptions/6.md, 8.md). -/
def Obligations.InvAtReset : Prop := State.reset.Inv

/-- Every step keeps the invariant, from every state that meets it. On three points that rests on the model's choices: a
step without a pending operation stays (notes/assumptions/1.md), the images stay over a RESET (6.md), and a RESET that is not
accepted goes on with the block as it was (7.md). -/
def Obligations.StepKeepsInv : Prop := ∀ s t : State, s.Inv → step s = .next t → t.Inv

/-- No run stops: from a state that meets the invariant, any number of steps with any pending operations ends in a next
state, which meets it again. That no operation fails, faults, stalls or is refused is the spec's (R200, R43, R69); that a run
also goes on through a RESET that is not accepted (notes/assumptions/7.md), and through an empty list of operations, where
each step leaves the state (notes/assumptions/1.md), is the model's choice. -/
def Obligations.NoRunEverStops : Prop :=
  ∀ (n : Nat) (s : State), s.Inv → ∃ t : State, Host.Core.run Sys2Proof.core n s = .next t ∧ t.Inv

/-- The refresh counter stays below the threshold while no level above it is driven on UPERIOD (R34). That the level is
any natural number and may change with each pending operation is the model's (notes/assumptions/10.md, 20.md). -/
def Obligations.StepKeepsRefreshBounded : Prop :=
  ∀ s t : State, s.RefreshBounded → step s = .next t → t.RefreshBounded

/-- No operation but RESET changes the model and the ROM, and RAM is changed only by MEMWR and RESET (R22, R23, R233). No
operation, RESET included, changes the open parameters `STARTUP_TICKS`, `LINK_IDLE` and `ROM_IMAGE`: they are global
parameters of the block (00_scope.md R8); that the images stay the same over a RESET is the model's choice
(notes/assumptions/6.md). -/
def Obligations.OnlyResetChangesModelAndRom : Prop :=
  ∀ (s t : State) (e : Pending) (rest : List Pending), s.pending = e :: rest → step s = .next t →
    t.startupTicks = s.startupTicks ∧ t.linkIdle = s.linkIdle ∧ t.romImages = s.romImages ∧
    ((∀ m, e.op ≠ .reset m) → t.model = s.model ∧ t.rom = s.rom ∧
      ((∀ a v, e.op ≠ .memwr a v) → t.ram = s.ram))

/-- STATUS is written only by TICK and RESET, `LINKRD` and the reserved indices only by RESET, `StartupOn` and `UCount` only
by TICK and RESET, the key inputs only by HOSTKEYS, and `ExitNow` is set only by TICK and HOSTEXIT (R15, R17, R21, R31 to
R34). -/
def Obligations.SpecialRegistersHaveTheirWriters : Prop :=
  ∀ (s t : State) (e : Pending) (rest : List Pending), s.pending = e :: rest → step s = .next t →
    ((∀ k o, e.op ≠ .hostkeys k o) → t.keyRow = s.keyRow ∧ t.onKey = s.onKey) ∧
    ((∀ m, e.op ≠ .reset m) → t.ports[9] = s.ports[9] ∧ (∀ i : Fin 32, 11 ≤ i.val → t.ports[i] = s.ports[i]) ∧
      ((∀ h, e.op ≠ .tick h) → t.ports[8] = s.ports[8] ∧ t.startupOn = s.startupOn ∧ t.uCount = s.uCount ∧
        (e.op ≠ .hostexit → t.exitNow = s.exitNow)))

/-- The LCD buffer is changed only by a data write (OUT to port 0x11) and RESET; the delay flag is set only by a command
(OUT to port 0x10) and cleared only by a data read (IN of port 0x11) and RESET; no other operation touches the LCD
controller (R28, R140, R161). -/
def Obligations.LcdStateHasItsWriters : Prop :=
  ∀ (s t : State) (e : Pending) (rest : List Pending), s.pending = e :: rest → step s = .next t →
    (∀ m, e.op ≠ .reset m) →
    ((∀ v, e.op ≠ .output 0x11 v) → t.lcd.buf = s.lcd.buf) ∧
    ((∀ v, e.op ≠ .output 0x10 v) → (∀ v, e.op ≠ .lcdcmd v) → s.lcd.delay = false → t.lcd.delay = false) ∧
    (e.op ≠ .input 0x11 → s.lcd.delay = true → t.lcd.delay = true) ∧
    (e.op ≠ .input 0x11 → (∀ v, e.op ≠ .output 0x11 v) → (∀ v, e.op ≠ .output 0x10 v) → (∀ v, e.op ≠ .lcdcmd v) →
      t.lcd = s.lcd)

/-- Of all IN transactions only that of the LCD data port changes anything but the outputs (R120, R47). -/
def Obligations.ReadsHaveNoSideEffectButLcdData : Prop :=
  ∀ (s : State) (p : Byte), p ≠ 0x11 → ∃ b : Byte,
    exec (inRow (tagField s.model) p) s = .next { s with result := some (.byte b), strobe := none }
end

