-- ==== Sys2Proof/Laws/Arms.lean ====
section
/-! SUPPORT. Arms.lean: `exec` and `encode` on each constructor, true by rfl, so that no proof unfolds their matches. -/

namespace Sys2Proof.Machine

@[simp] theorem exec_lcdSetcontrast (c : BitVec 6) (s : State) : exec (.lcdSetcontrast c) s = execLcdSetcontrast c s := rfl
@[simp] theorem exec_lcdSetrow (r : BitVec 6) (s : State) : exec (.lcdSetrow r) s = execLcdSetrow r s := rfl
@[simp] theorem exec_lcdSetscroll (z : BitVec 6) (s : State) : exec (.lcdSetscroll z) s = execLcdSetscroll z s := rfl
@[simp] theorem exec_lcdSetcol (x : BitVec 1) (y : BitVec 4) (s : State) : exec (.lcdSetcol x y) s = execLcdSetcol x y s := rfl
@[simp] theorem exec_lcdMode6 (x : BitVec 2) (s : State) : exec (.lcdMode6 x) s = execLcdMode6 x s := rfl
@[simp] theorem exec_lcdMode8 (x : BitVec 2) (s : State) : exec (.lcdMode8 x) s = execLcdMode8 x s := rfl
@[simp] theorem exec_lcdOff (x : BitVec 2) (s : State) : exec (.lcdOff x) s = execLcdOff x s := rfl
@[simp] theorem exec_lcdOn (x : BitVec 2) (s : State) : exec (.lcdOn x) s = execLcdOn x s := rfl
@[simp] theorem exec_lcdDirRowdec (x : BitVec 2) (s : State) : exec (.lcdDirRowdec x) s = execLcdDirRowdec x s := rfl
@[simp] theorem exec_lcdDirRowinc (x : BitVec 2) (s : State) : exec (.lcdDirRowinc x) s = execLcdDirRowinc x s := rfl
@[simp] theorem exec_lcdDirColdec (x : BitVec 2) (s : State) : exec (.lcdDirColdec x) s = execLcdDirColdec x s := rfl
@[simp] theorem exec_lcdDirColinc (x : BitVec 2) (s : State) : exec (.lcdDirColinc x) s = execLcdDirColinc x s := rfl
@[simp] theorem exec_inPlainM85_00 (s : State) : exec .inPlainM85_00 s = execInPlainM85_00 s := rfl
@[simp] theorem exec_outPlainM85_00 (v : Byte) (s : State) : exec (.outPlainM85_00 v) s = execOutPlainM85_00 v s := rfl
@[simp] theorem exec_inKeypadM85_01 (s : State) : exec .inKeypadM85_01 s = execInKeypadM85_01 s := rfl
@[simp] theorem exec_outKeypadM85_01 (v : Byte) (s : State) : exec (.outKeypadM85_01 v) s = execOutKeypadM85_01 v s := rfl
@[simp] theorem exec_inContrastM85_02 (s : State) : exec .inContrastM85_02 s = execInContrastM85_02 s := rfl
@[simp] theorem exec_outContrastM85_02 (v : Byte) (s : State) : exec (.outContrastM85_02 v) s = execOutContrastM85_02 v s := rfl
@[simp] theorem exec_inStatusM85_03 (s : State) : exec .inStatusM85_03 s = execInStatusM85_03 s := rfl
@[simp] theorem exec_outControlM85_03 (v : Byte) (s : State) : exec (.outControlM85_03 v) s = execOutControlM85_03 v s := rfl
@[simp] theorem exec_inPlainM85_04 (s : State) : exec .inPlainM85_04 s = execInPlainM85_04 s := rfl
@[simp] theorem exec_outPlainM85_04 (v : Byte) (s : State) : exec (.outPlainM85_04 v) s = execOutPlainM85_04 v s := rfl
@[simp] theorem exec_inPageM85_05 (s : State) : exec .inPageM85_05 s = execInPageM85_05 s := rfl
@[simp] theorem exec_outPageM85_05 (v : Byte) (s : State) : exec (.outPageM85_05 v) s = execOutPageM85_05 v s := rfl
@[simp] theorem exec_inPlainM85_06 (s : State) : exec .inPlainM85_06 s = execInPlainM85_06 s := rfl
@[simp] theorem exec_outPlainM85_06 (v : Byte) (s : State) : exec (.outPlainM85_06 v) s = execOutPlainM85_06 v s := rfl
@[simp] theorem exec_inLinkM85_07 (s : State) : exec .inLinkM85_07 s = execInLinkM85_07 s := rfl
@[simp] theorem exec_outLinkM85_07 (v : Byte) (s : State) : exec (.outLinkM85_07 v) s = execOutLinkM85_07 v s := rfl
@[simp] theorem exec_inPlainM86_00 (s : State) : exec .inPlainM86_00 s = execInPlainM86_00 s := rfl
@[simp] theorem exec_outPlainM86_00 (v : Byte) (s : State) : exec (.outPlainM86_00 v) s = execOutPlainM86_00 v s := rfl
@[simp] theorem exec_inKeypadM86_01 (s : State) : exec .inKeypadM86_01 s = execInKeypadM86_01 s := rfl
@[simp] theorem exec_outKeypadM86_01 (v : Byte) (s : State) : exec (.outKeypadM86_01 v) s = execOutKeypadM86_01 v s := rfl
@[simp] theorem exec_inContrastM86_02 (s : State) : exec .inContrastM86_02 s = execInContrastM86_02 s := rfl
@[simp] theorem exec_outContrastM86_02 (v : Byte) (s : State) : exec (.outContrastM86_02 v) s = execOutContrastM86_02 v s := rfl
@[simp] theorem exec_inStatusM86_03 (s : State) : exec .inStatusM86_03 s = execInStatusM86_03 s := rfl
@[simp] theorem exec_outControlM86_03 (v : Byte) (s : State) : exec (.outControlM86_03 v) s = execOutControlM86_03 v s := rfl
@[simp] theorem exec_inPlainM86_04 (s : State) : exec .inPlainM86_04 s = execInPlainM86_04 s := rfl
@[simp] theorem exec_outPlainM86_04 (v : Byte) (s : State) : exec (.outPlainM86_04 v) s = execOutPlainM86_04 v s := rfl
@[simp] theorem exec_inPageM86_05 (s : State) : exec .inPageM86_05 s = execInPageM86_05 s := rfl
@[simp] theorem exec_outPageM86_05 (v : Byte) (s : State) : exec (.outPageM86_05 v) s = execOutPageM86_05 v s := rfl
@[simp] theorem exec_inPageM86_06 (s : State) : exec .inPageM86_06 s = execInPageM86_06 s := rfl
@[simp] theorem exec_outPageM86_06 (v : Byte) (s : State) : exec (.outPageM86_06 v) s = execOutPageM86_06 v s := rfl
@[simp] theorem exec_inLinkM86_07 (s : State) : exec .inLinkM86_07 s = execInLinkM86_07 s := rfl
@[simp] theorem exec_outLinkM86_07 (v : Byte) (s : State) : exec (.outLinkM86_07 v) s = execOutLinkM86_07 v s := rfl
@[simp] theorem exec_inLinkM82_00 (s : State) : exec .inLinkM82_00 s = execInLinkM82_00 s := rfl
@[simp] theorem exec_outLinkM82_00 (v : Byte) (s : State) : exec (.outLinkM82_00 v) s = execOutLinkM82_00 v s := rfl
@[simp] theorem exec_inKeypadM82_01 (s : State) : exec .inKeypadM82_01 s = execInKeypadM82_01 s := rfl
@[simp] theorem exec_outKeypadM82_01 (v : Byte) (s : State) : exec (.outKeypadM82_01 v) s = execOutKeypadM82_01 v s := rfl
@[simp] theorem exec_inPageM82_02 (s : State) : exec .inPageM82_02 s = execInPageM82_02 s := rfl
@[simp] theorem exec_outPageM82_02 (v : Byte) (s : State) : exec (.outPageM82_02 v) s = execOutPageM82_02 v s := rfl
@[simp] theorem exec_inStatusM82_03 (s : State) : exec .inStatusM82_03 s = execInStatusM82_03 s := rfl
@[simp] theorem exec_outControlM82_03 (v : Byte) (s : State) : exec (.outControlM82_03 v) s = execOutControlM82_03 v s := rfl
@[simp] theorem exec_inPlainM82_04 (s : State) : exec .inPlainM82_04 s = execInPlainM82_04 s := rfl
@[simp] theorem exec_outPlainM82_04 (v : Byte) (s : State) : exec (.outPlainM82_04 v) s = execOutPlainM82_04 v s := rfl
@[simp] theorem exec_inPlainM82_05 (s : State) : exec .inPlainM82_05 s = execInPlainM82_05 s := rfl
@[simp] theorem exec_outPlainM82_05 (v : Byte) (s : State) : exec (.outPlainM82_05 v) s = execOutPlainM82_05 v s := rfl
@[simp] theorem exec_inPlainM82_06 (s : State) : exec .inPlainM82_06 s = execInPlainM82_06 s := rfl
@[simp] theorem exec_outPlainM82_06 (v : Byte) (s : State) : exec (.outPlainM82_06 v) s = execOutPlainM82_06 v s := rfl
@[simp] theorem exec_inPlainM82_07 (s : State) : exec .inPlainM82_07 s = execInPlainM82_07 s := rfl
@[simp] theorem exec_outPlainM82_07 (v : Byte) (s : State) : exec (.outPlainM82_07 v) s = execOutPlainM82_07 v s := rfl
@[simp] theorem exec_inLcdstatM82_10 (s : State) : exec .inLcdstatM82_10 s = execInLcdstatM82_10 s := rfl
@[simp] theorem exec_outLcdcmdM82_10 (v : Byte) (s : State) : exec (.outLcdcmdM82_10 v) s = execOutLcdcmdM82_10 v s := rfl
@[simp] theorem exec_inLcddataM82_11 (s : State) : exec .inLcddataM82_11 s = execInLcddataM82_11 s := rfl
@[simp] theorem exec_outLcddataM82_11 (v : Byte) (s : State) : exec (.outLcddataM82_11 v) s = execOutLcddataM82_11 v s := rfl
@[simp] theorem exec_inLinkM83_00 (s : State) : exec .inLinkM83_00 s = execInLinkM83_00 s := rfl
@[simp] theorem exec_outLinkM83_00 (v : Byte) (s : State) : exec (.outLinkM83_00 v) s = execOutLinkM83_00 v s := rfl
@[simp] theorem exec_inKeypadM83_01 (s : State) : exec .inKeypadM83_01 s = execInKeypadM83_01 s := rfl
@[simp] theorem exec_outKeypadM83_01 (v : Byte) (s : State) : exec (.outKeypadM83_01 v) s = execOutKeypadM83_01 v s := rfl
@[simp] theorem exec_inPageM83_02 (s : State) : exec .inPageM83_02 s = execInPageM83_02 s := rfl
@[simp] theorem exec_outPageM83_02 (v : Byte) (s : State) : exec (.outPageM83_02 v) s = execOutPageM83_02 v s := rfl
@[simp] theorem exec_inStatusM83_03 (s : State) : exec .inStatusM83_03 s = execInStatusM83_03 s := rfl
@[simp] theorem exec_outControlM83_03 (v : Byte) (s : State) : exec (.outControlM83_03 v) s = execOutControlM83_03 v s := rfl
@[simp] theorem exec_inPageM83_04 (s : State) : exec .inPageM83_04 s = execInPageM83_04 s := rfl
@[simp] theorem exec_outMapselM83_04 (v : Byte) (s : State) : exec (.outMapselM83_04 v) s = execOutMapselM83_04 v s := rfl
@[simp] theorem exec_inPlainM83_05 (s : State) : exec .inPlainM83_05 s = execInPlainM83_05 s := rfl
@[simp] theorem exec_outPlainM83_05 (v : Byte) (s : State) : exec (.outPlainM83_05 v) s = execOutPlainM83_05 v s := rfl
@[simp] theorem exec_inPlainM83_06 (s : State) : exec .inPlainM83_06 s = execInPlainM83_06 s := rfl
@[simp] theorem exec_outPlainM83_06 (v : Byte) (s : State) : exec (.outPlainM83_06 v) s = execOutPlainM83_06 v s := rfl
@[simp] theorem exec_inPlainM83_07 (s : State) : exec .inPlainM83_07 s = execInPlainM83_07 s := rfl
@[simp] theorem exec_outPlainM83_07 (v : Byte) (s : State) : exec (.outPlainM83_07 v) s = execOutPlainM83_07 v s := rfl
@[simp] theorem exec_inLcdstatM83_10 (s : State) : exec .inLcdstatM83_10 s = execInLcdstatM83_10 s := rfl
@[simp] theorem exec_outLcdcmdM83_10 (v : Byte) (s : State) : exec (.outLcdcmdM83_10 v) s = execOutLcdcmdM83_10 v s := rfl
@[simp] theorem exec_inLcddataM83_11 (s : State) : exec .inLcddataM83_11 s = execInLcddataM83_11 s := rfl
@[simp] theorem exec_outLcddataM83_11 (v : Byte) (s : State) : exec (.outLcddataM83_11 v) s = execOutLcddataM83_11 v s := rfl
@[simp] theorem exec_inLinkM83P_00 (s : State) : exec .inLinkM83P_00 s = execInLinkM83P_00 s := rfl
@[simp] theorem exec_outLinkM83P_00 (v : Byte) (s : State) : exec (.outLinkM83P_00 v) s = execOutLinkM83P_00 v s := rfl
@[simp] theorem exec_inKeypadM83P_01 (s : State) : exec .inKeypadM83P_01 s = execInKeypadM83P_01 s := rfl
@[simp] theorem exec_outKeypadM83P_01 (v : Byte) (s : State) : exec (.outKeypadM83P_01 v) s = execOutKeypadM83P_01 v s := rfl
@[simp] theorem exec_inPlainM83P_02 (s : State) : exec .inPlainM83P_02 s = execInPlainM83P_02 s := rfl
@[simp] theorem exec_outPlainM83P_02 (v : Byte) (s : State) : exec (.outPlainM83P_02 v) s = execOutPlainM83P_02 v s := rfl
@[simp] theorem exec_inControlM83P_03 (s : State) : exec .inControlM83P_03 s = execInControlM83P_03 s := rfl
@[simp] theorem exec_outControlM83P_03 (v : Byte) (s : State) : exec (.outControlM83P_03 v) s = execOutControlM83P_03 v s := rfl
@[simp] theorem exec_inStatusM83P_04 (s : State) : exec .inStatusM83P_04 s = execInStatusM83P_04 s := rfl
@[simp] theorem exec_outMapselM83P_04 (v : Byte) (s : State) : exec (.outMapselM83P_04 v) s = execOutMapselM83P_04 v s := rfl
@[simp] theorem exec_inPlainM83P_05 (s : State) : exec .inPlainM83P_05 s = execInPlainM83P_05 s := rfl
@[simp] theorem exec_outPlainM83P_05 (v : Byte) (s : State) : exec (.outPlainM83P_05 v) s = execOutPlainM83P_05 v s := rfl
@[simp] theorem exec_inPageM83P_06 (s : State) : exec .inPageM83P_06 s = execInPageM83P_06 s := rfl
@[simp] theorem exec_outPageM83P_06 (v : Byte) (s : State) : exec (.outPageM83P_06 v) s = execOutPageM83P_06 v s := rfl
@[simp] theorem exec_inPageM83P_07 (s : State) : exec .inPageM83P_07 s = execInPageM83P_07 s := rfl
@[simp] theorem exec_outPageM83P_07 (v : Byte) (s : State) : exec (.outPageM83P_07 v) s = execOutPageM83P_07 v s := rfl
@[simp] theorem exec_inLcdstatM83P_10 (s : State) : exec .inLcdstatM83P_10 s = execInLcdstatM83P_10 s := rfl
@[simp] theorem exec_outLcdcmdM83P_10 (v : Byte) (s : State) : exec (.outLcdcmdM83P_10 v) s = execOutLcdcmdM83P_10 v s := rfl
@[simp] theorem exec_inLcddataM83P_11 (s : State) : exec .inLcddataM83P_11 s = execInLcddataM83P_11 s := rfl
@[simp] theorem exec_outLcddataM83P_11 (v : Byte) (s : State) : exec (.outLcddataM83P_11 v) s = execOutLcddataM83P_11 v s := rfl
@[simp] theorem exec_inLinkM83SE_00 (s : State) : exec .inLinkM83SE_00 s = execInLinkM83SE_00 s := rfl
@[simp] theorem exec_outLinkM83SE_00 (v : Byte) (s : State) : exec (.outLinkM83SE_00 v) s = execOutLinkM83SE_00 v s := rfl
@[simp] theorem exec_inKeypadM83SE_01 (s : State) : exec .inKeypadM83SE_01 s = execInKeypadM83SE_01 s := rfl
@[simp] theorem exec_outKeypadM83SE_01 (v : Byte) (s : State) : exec (.outKeypadM83SE_01 v) s = execOutKeypadM83SE_01 v s := rfl
@[simp] theorem exec_inPlainM83SE_02 (s : State) : exec .inPlainM83SE_02 s = execInPlainM83SE_02 s := rfl
@[simp] theorem exec_outPlainM83SE_02 (v : Byte) (s : State) : exec (.outPlainM83SE_02 v) s = execOutPlainM83SE_02 v s := rfl
@[simp] theorem exec_inControlM83SE_03 (s : State) : exec .inControlM83SE_03 s = execInControlM83SE_03 s := rfl
@[simp] theorem exec_outControlM83SE_03 (v : Byte) (s : State) : exec (.outControlM83SE_03 v) s = execOutControlM83SE_03 v s := rfl
@[simp] theorem exec_inStatusM83SE_04 (s : State) : exec .inStatusM83SE_04 s = execInStatusM83SE_04 s := rfl
@[simp] theorem exec_outMapselM83SE_04 (v : Byte) (s : State) : exec (.outMapselM83SE_04 v) s = execOutMapselM83SE_04 v s := rfl
@[simp] theorem exec_inPageM83SE_05 (s : State) : exec .inPageM83SE_05 s = execInPageM83SE_05 s := rfl
@[simp] theorem exec_outPageM83SE_05 (v : Byte) (s : State) : exec (.outPageM83SE_05 v) s = execOutPageM83SE_05 v s := rfl
@[simp] theorem exec_inPageM83SE_06 (s : State) : exec .inPageM83SE_06 s = execInPageM83SE_06 s := rfl
@[simp] theorem exec_outPageM83SE_06 (v : Byte) (s : State) : exec (.outPageM83SE_06 v) s = execOutPageM83SE_06 v s := rfl
@[simp] theorem exec_inPageM83SE_07 (s : State) : exec .inPageM83SE_07 s = execInPageM83SE_07 s := rfl
@[simp] theorem exec_outPageM83SE_07 (v : Byte) (s : State) : exec (.outPageM83SE_07 v) s = execOutPageM83SE_07 v s := rfl
@[simp] theorem exec_inLcdstatM83SE_10 (s : State) : exec .inLcdstatM83SE_10 s = execInLcdstatM83SE_10 s := rfl
@[simp] theorem exec_outLcdcmdM83SE_10 (v : Byte) (s : State) : exec (.outLcdcmdM83SE_10 v) s = execOutLcdcmdM83SE_10 v s := rfl
@[simp] theorem exec_inLcddataM83SE_11 (s : State) : exec .inLcddataM83SE_11 s = execInLcddataM83SE_11 s := rfl
@[simp] theorem exec_outLcddataM83SE_11 (v : Byte) (s : State) : exec (.outLcddataM83SE_11 v) s = execOutLcddataM83SE_11 v s := rfl
@[simp] theorem exec_inLinkM84P_00 (s : State) : exec .inLinkM84P_00 s = execInLinkM84P_00 s := rfl
@[simp] theorem exec_outLinkM84P_00 (v : Byte) (s : State) : exec (.outLinkM84P_00 v) s = execOutLinkM84P_00 v s := rfl
@[simp] theorem exec_inKeypadM84P_01 (s : State) : exec .inKeypadM84P_01 s = execInKeypadM84P_01 s := rfl
@[simp] theorem exec_outKeypadM84P_01 (v : Byte) (s : State) : exec (.outKeypadM84P_01 v) s = execOutKeypadM84P_01 v s := rfl
@[simp] theorem exec_inPlainM84P_02 (s : State) : exec .inPlainM84P_02 s = execInPlainM84P_02 s := rfl
@[simp] theorem exec_outPlainM84P_02 (v : Byte) (s : State) : exec (.outPlainM84P_02 v) s = execOutPlainM84P_02 v s := rfl
@[simp] theorem exec_inControlM84P_03 (s : State) : exec .inControlM84P_03 s = execInControlM84P_03 s := rfl
@[simp] theorem exec_outControlM84P_03 (v : Byte) (s : State) : exec (.outControlM84P_03 v) s = execOutControlM84P_03 v s := rfl
@[simp] theorem exec_inStatusM84P_04 (s : State) : exec .inStatusM84P_04 s = execInStatusM84P_04 s := rfl
@[simp] theorem exec_outMapselM84P_04 (v : Byte) (s : State) : exec (.outMapselM84P_04 v) s = execOutMapselM84P_04 v s := rfl
@[simp] theorem exec_inPageM84P_05 (s : State) : exec .inPageM84P_05 s = execInPageM84P_05 s := rfl
@[simp] theorem exec_outPageM84P_05 (v : Byte) (s : State) : exec (.outPageM84P_05 v) s = execOutPageM84P_05 v s := rfl
@[simp] theorem exec_inPageM84P_06 (s : State) : exec .inPageM84P_06 s = execInPageM84P_06 s := rfl
@[simp] theorem exec_outPageM84P_06 (v : Byte) (s : State) : exec (.outPageM84P_06 v) s = execOutPageM84P_06 v s := rfl
@[simp] theorem exec_inPageM84P_07 (s : State) : exec .inPageM84P_07 s = execInPageM84P_07 s := rfl
@[simp] theorem exec_outPageM84P_07 (v : Byte) (s : State) : exec (.outPageM84P_07 v) s = execOutPageM84P_07 v s := rfl
@[simp] theorem exec_inLcdstatM84P_10 (s : State) : exec .inLcdstatM84P_10 s = execInLcdstatM84P_10 s := rfl
@[simp] theorem exec_outLcdcmdM84P_10 (v : Byte) (s : State) : exec (.outLcdcmdM84P_10 v) s = execOutLcdcmdM84P_10 v s := rfl
@[simp] theorem exec_inLcddataM84P_11 (s : State) : exec .inLcddataM84P_11 s = execInLcddataM84P_11 s := rfl
@[simp] theorem exec_outLcddataM84P_11 (v : Byte) (s : State) : exec (.outLcddataM84P_11 v) s = execOutLcddataM84P_11 v s := rfl
@[simp] theorem exec_inLinkM84SE_00 (s : State) : exec .inLinkM84SE_00 s = execInLinkM84SE_00 s := rfl
@[simp] theorem exec_outLinkM84SE_00 (v : Byte) (s : State) : exec (.outLinkM84SE_00 v) s = execOutLinkM84SE_00 v s := rfl
@[simp] theorem exec_inKeypadM84SE_01 (s : State) : exec .inKeypadM84SE_01 s = execInKeypadM84SE_01 s := rfl
@[simp] theorem exec_outKeypadM84SE_01 (v : Byte) (s : State) : exec (.outKeypadM84SE_01 v) s = execOutKeypadM84SE_01 v s := rfl
@[simp] theorem exec_inPlainM84SE_02 (s : State) : exec .inPlainM84SE_02 s = execInPlainM84SE_02 s := rfl
@[simp] theorem exec_outPlainM84SE_02 (v : Byte) (s : State) : exec (.outPlainM84SE_02 v) s = execOutPlainM84SE_02 v s := rfl
@[simp] theorem exec_inControlM84SE_03 (s : State) : exec .inControlM84SE_03 s = execInControlM84SE_03 s := rfl
@[simp] theorem exec_outControlM84SE_03 (v : Byte) (s : State) : exec (.outControlM84SE_03 v) s = execOutControlM84SE_03 v s := rfl
@[simp] theorem exec_inStatusM84SE_04 (s : State) : exec .inStatusM84SE_04 s = execInStatusM84SE_04 s := rfl
@[simp] theorem exec_outMapselM84SE_04 (v : Byte) (s : State) : exec (.outMapselM84SE_04 v) s = execOutMapselM84SE_04 v s := rfl
@[simp] theorem exec_inPageM84SE_05 (s : State) : exec .inPageM84SE_05 s = execInPageM84SE_05 s := rfl
@[simp] theorem exec_outPageM84SE_05 (v : Byte) (s : State) : exec (.outPageM84SE_05 v) s = execOutPageM84SE_05 v s := rfl
@[simp] theorem exec_inPageM84SE_06 (s : State) : exec .inPageM84SE_06 s = execInPageM84SE_06 s := rfl
@[simp] theorem exec_outPageM84SE_06 (v : Byte) (s : State) : exec (.outPageM84SE_06 v) s = execOutPageM84SE_06 v s := rfl
@[simp] theorem exec_inPageM84SE_07 (s : State) : exec .inPageM84SE_07 s = execInPageM84SE_07 s := rfl
@[simp] theorem exec_outPageM84SE_07 (v : Byte) (s : State) : exec (.outPageM84SE_07 v) s = execOutPageM84SE_07 v s := rfl
@[simp] theorem exec_inLcdstatM84SE_10 (s : State) : exec .inLcdstatM84SE_10 s = execInLcdstatM84SE_10 s := rfl
@[simp] theorem exec_outLcdcmdM84SE_10 (v : Byte) (s : State) : exec (.outLcdcmdM84SE_10 v) s = execOutLcdcmdM84SE_10 v s := rfl
@[simp] theorem exec_inLcddataM84SE_11 (s : State) : exec .inLcddataM84SE_11 s = execInLcddataM84SE_11 s := rfl
@[simp] theorem exec_outLcddataM84SE_11 (v : Byte) (s : State) : exec (.outLcddataM84SE_11 v) s = execOutLcddataM84SE_11 v s := rfl
@[simp] theorem exec_inUnmapped (tag : BitVec 4) (p : Byte) (s : State) : exec (.inUnmapped tag p) s = execInUnmapped tag p s := rfl
@[simp] theorem exec_outUnmapped (tag : BitVec 4) (p : Byte) (v : Byte) (s : State) : exec (.outUnmapped tag p v) s = execOutUnmapped tag p v s := rfl
@[simp] theorem exec_memrd (a : Addr) (s : State) : exec (.memrd a) s = execMemrd a s := rfl
@[simp] theorem exec_memwr (a : Addr) (v : Byte) (s : State) : exec (.memwr a v) s = execMemwr a v s := rfl
@[simp] theorem exec_tick (h : Bool) (s : State) : exec (.tick h) s = execTick h s := rfl
@[simp] theorem exec_reset (m : Byte) (s : State) : exec (.reset m) s = execReset m s := rfl
@[simp] theorem exec_hostexit (s : State) : exec .hostexit s = execHostexit s := rfl
@[simp] theorem exec_hostkeys (k : Vector Byte 8) (o : Bool) (s : State) : exec (.hostkeys k o) s = execHostkeys k o s := rfl

theorem encode_lcdSetcontrast (c : BitVec 6) : encode (.lcdSetcontrast c) = [3#2 ++ c] := rfl
theorem encode_lcdSetrow (r : BitVec 6) : encode (.lcdSetrow r) = [2#2 ++ r] := rfl
theorem encode_lcdSetscroll (z : BitVec 6) : encode (.lcdSetscroll z) = [1#2 ++ z] := rfl
theorem encode_lcdSetcol (x : BitVec 1) (y : BitVec 4) : encode (.lcdSetcol x y) = [1#3 ++ x ++ y] := rfl
theorem encode_lcdMode6 (x : BitVec 2) : encode (.lcdMode6 x) = [0#3 ++ x ++ 0#3] := rfl
theorem encode_lcdMode8 (x : BitVec 2) : encode (.lcdMode8 x) = [0#3 ++ x ++ 1#3] := rfl
theorem encode_lcdOff (x : BitVec 2) : encode (.lcdOff x) = [0#3 ++ x ++ 2#3] := rfl
theorem encode_lcdOn (x : BitVec 2) : encode (.lcdOn x) = [0#3 ++ x ++ 3#3] := rfl
theorem encode_lcdDirRowdec (x : BitVec 2) : encode (.lcdDirRowdec x) = [0#3 ++ x ++ 4#3] := rfl
theorem encode_lcdDirRowinc (x : BitVec 2) : encode (.lcdDirRowinc x) = [0#3 ++ x ++ 5#3] := rfl
theorem encode_lcdDirColdec (x : BitVec 2) : encode (.lcdDirColdec x) = [0#3 ++ x ++ 6#3] := rfl
theorem encode_lcdDirColinc (x : BitVec 2) : encode (.lcdDirColinc x) = [0#3 ++ x ++ 7#3] := rfl
theorem encode_inPlainM85_00 : encode .inPlainM85_00 = inKey 0 0x00 := rfl
theorem encode_outPlainM85_00 (v : Byte) : encode (.outPlainM85_00 v) = outKey 0 0x00 v := rfl
theorem encode_inKeypadM85_01 : encode .inKeypadM85_01 = inKey 0 0x01 := rfl
theorem encode_outKeypadM85_01 (v : Byte) : encode (.outKeypadM85_01 v) = outKey 0 0x01 v := rfl
theorem encode_inContrastM85_02 : encode .inContrastM85_02 = inKey 0 0x02 := rfl
theorem encode_outContrastM85_02 (v : Byte) : encode (.outContrastM85_02 v) = outKey 0 0x02 v := rfl
theorem encode_inStatusM85_03 : encode .inStatusM85_03 = inKey 0 0x03 := rfl
theorem encode_outControlM85_03 (v : Byte) : encode (.outControlM85_03 v) = outKey 0 0x03 v := rfl
theorem encode_inPlainM85_04 : encode .inPlainM85_04 = inKey 0 0x04 := rfl
theorem encode_outPlainM85_04 (v : Byte) : encode (.outPlainM85_04 v) = outKey 0 0x04 v := rfl
theorem encode_inPageM85_05 : encode .inPageM85_05 = inKey 0 0x05 := rfl
theorem encode_outPageM85_05 (v : Byte) : encode (.outPageM85_05 v) = outKey 0 0x05 v := rfl
theorem encode_inPlainM85_06 : encode .inPlainM85_06 = inKey 0 0x06 := rfl
theorem encode_outPlainM85_06 (v : Byte) : encode (.outPlainM85_06 v) = outKey 0 0x06 v := rfl
theorem encode_inLinkM85_07 : encode .inLinkM85_07 = inKey 0 0x07 := rfl
theorem encode_outLinkM85_07 (v : Byte) : encode (.outLinkM85_07 v) = outKey 0 0x07 v := rfl
theorem encode_inPlainM86_00 : encode .inPlainM86_00 = inKey 1 0x00 := rfl
theorem encode_outPlainM86_00 (v : Byte) : encode (.outPlainM86_00 v) = outKey 1 0x00 v := rfl
theorem encode_inKeypadM86_01 : encode .inKeypadM86_01 = inKey 1 0x01 := rfl
theorem encode_outKeypadM86_01 (v : Byte) : encode (.outKeypadM86_01 v) = outKey 1 0x01 v := rfl
theorem encode_inContrastM86_02 : encode .inContrastM86_02 = inKey 1 0x02 := rfl
theorem encode_outContrastM86_02 (v : Byte) : encode (.outContrastM86_02 v) = outKey 1 0x02 v := rfl
theorem encode_inStatusM86_03 : encode .inStatusM86_03 = inKey 1 0x03 := rfl
theorem encode_outControlM86_03 (v : Byte) : encode (.outControlM86_03 v) = outKey 1 0x03 v := rfl
theorem encode_inPlainM86_04 : encode .inPlainM86_04 = inKey 1 0x04 := rfl
theorem encode_outPlainM86_04 (v : Byte) : encode (.outPlainM86_04 v) = outKey 1 0x04 v := rfl
theorem encode_inPageM86_05 : encode .inPageM86_05 = inKey 1 0x05 := rfl
theorem encode_outPageM86_05 (v : Byte) : encode (.outPageM86_05 v) = outKey 1 0x05 v := rfl
theorem encode_inPageM86_06 : encode .inPageM86_06 = inKey 1 0x06 := rfl
theorem encode_outPageM86_06 (v : Byte) : encode (.outPageM86_06 v) = outKey 1 0x06 v := rfl
theorem encode_inLinkM86_07 : encode .inLinkM86_07 = inKey 1 0x07 := rfl
theorem encode_outLinkM86_07 (v : Byte) : encode (.outLinkM86_07 v) = outKey 1 0x07 v := rfl
theorem encode_inLinkM82_00 : encode .inLinkM82_00 = inKey 2 0x00 := rfl
theorem encode_outLinkM82_00 (v : Byte) : encode (.outLinkM82_00 v) = outKey 2 0x00 v := rfl
theorem encode_inKeypadM82_01 : encode .inKeypadM82_01 = inKey 2 0x01 := rfl
theorem encode_outKeypadM82_01 (v : Byte) : encode (.outKeypadM82_01 v) = outKey 2 0x01 v := rfl
theorem encode_inPageM82_02 : encode .inPageM82_02 = inKey 2 0x02 := rfl
theorem encode_outPageM82_02 (v : Byte) : encode (.outPageM82_02 v) = outKey 2 0x02 v := rfl
theorem encode_inStatusM82_03 : encode .inStatusM82_03 = inKey 2 0x03 := rfl
theorem encode_outControlM82_03 (v : Byte) : encode (.outControlM82_03 v) = outKey 2 0x03 v := rfl
theorem encode_inPlainM82_04 : encode .inPlainM82_04 = inKey 2 0x04 := rfl
theorem encode_outPlainM82_04 (v : Byte) : encode (.outPlainM82_04 v) = outKey 2 0x04 v := rfl
theorem encode_inPlainM82_05 : encode .inPlainM82_05 = inKey 2 0x05 := rfl
theorem encode_outPlainM82_05 (v : Byte) : encode (.outPlainM82_05 v) = outKey 2 0x05 v := rfl
theorem encode_inPlainM82_06 : encode .inPlainM82_06 = inKey 2 0x06 := rfl
theorem encode_outPlainM82_06 (v : Byte) : encode (.outPlainM82_06 v) = outKey 2 0x06 v := rfl
theorem encode_inPlainM82_07 : encode .inPlainM82_07 = inKey 2 0x07 := rfl
theorem encode_outPlainM82_07 (v : Byte) : encode (.outPlainM82_07 v) = outKey 2 0x07 v := rfl
theorem encode_inLcdstatM82_10 : encode .inLcdstatM82_10 = inKey 2 0x10 := rfl
theorem encode_outLcdcmdM82_10 (v : Byte) : encode (.outLcdcmdM82_10 v) = outKey 2 0x10 v := rfl
theorem encode_inLcddataM82_11 : encode .inLcddataM82_11 = inKey 2 0x11 := rfl
theorem encode_outLcddataM82_11 (v : Byte) : encode (.outLcddataM82_11 v) = outKey 2 0x11 v := rfl
theorem encode_inLinkM83_00 : encode .inLinkM83_00 = inKey 3 0x00 := rfl
theorem encode_outLinkM83_00 (v : Byte) : encode (.outLinkM83_00 v) = outKey 3 0x00 v := rfl
theorem encode_inKeypadM83_01 : encode .inKeypadM83_01 = inKey 3 0x01 := rfl
theorem encode_outKeypadM83_01 (v : Byte) : encode (.outKeypadM83_01 v) = outKey 3 0x01 v := rfl
theorem encode_inPageM83_02 : encode .inPageM83_02 = inKey 3 0x02 := rfl
theorem encode_outPageM83_02 (v : Byte) : encode (.outPageM83_02 v) = outKey 3 0x02 v := rfl
theorem encode_inStatusM83_03 : encode .inStatusM83_03 = inKey 3 0x03 := rfl
theorem encode_outControlM83_03 (v : Byte) : encode (.outControlM83_03 v) = outKey 3 0x03 v := rfl
theorem encode_inPageM83_04 : encode .inPageM83_04 = inKey 3 0x04 := rfl
theorem encode_outMapselM83_04 (v : Byte) : encode (.outMapselM83_04 v) = outKey 3 0x04 v := rfl
theorem encode_inPlainM83_05 : encode .inPlainM83_05 = inKey 3 0x05 := rfl
theorem encode_outPlainM83_05 (v : Byte) : encode (.outPlainM83_05 v) = outKey 3 0x05 v := rfl
theorem encode_inPlainM83_06 : encode .inPlainM83_06 = inKey 3 0x06 := rfl
theorem encode_outPlainM83_06 (v : Byte) : encode (.outPlainM83_06 v) = outKey 3 0x06 v := rfl
theorem encode_inPlainM83_07 : encode .inPlainM83_07 = inKey 3 0x07 := rfl
theorem encode_outPlainM83_07 (v : Byte) : encode (.outPlainM83_07 v) = outKey 3 0x07 v := rfl
theorem encode_inLcdstatM83_10 : encode .inLcdstatM83_10 = inKey 3 0x10 := rfl
theorem encode_outLcdcmdM83_10 (v : Byte) : encode (.outLcdcmdM83_10 v) = outKey 3 0x10 v := rfl
theorem encode_inLcddataM83_11 : encode .inLcddataM83_11 = inKey 3 0x11 := rfl
theorem encode_outLcddataM83_11 (v : Byte) : encode (.outLcddataM83_11 v) = outKey 3 0x11 v := rfl
theorem encode_inLinkM83P_00 : encode .inLinkM83P_00 = inKey 4 0x00 := rfl
theorem encode_outLinkM83P_00 (v : Byte) : encode (.outLinkM83P_00 v) = outKey 4 0x00 v := rfl
theorem encode_inKeypadM83P_01 : encode .inKeypadM83P_01 = inKey 4 0x01 := rfl
theorem encode_outKeypadM83P_01 (v : Byte) : encode (.outKeypadM83P_01 v) = outKey 4 0x01 v := rfl
theorem encode_inPlainM83P_02 : encode .inPlainM83P_02 = inKey 4 0x02 := rfl
theorem encode_outPlainM83P_02 (v : Byte) : encode (.outPlainM83P_02 v) = outKey 4 0x02 v := rfl
theorem encode_inControlM83P_03 : encode .inControlM83P_03 = inKey 4 0x03 := rfl
theorem encode_outControlM83P_03 (v : Byte) : encode (.outControlM83P_03 v) = outKey 4 0x03 v := rfl
theorem encode_inStatusM83P_04 : encode .inStatusM83P_04 = inKey 4 0x04 := rfl
theorem encode_outMapselM83P_04 (v : Byte) : encode (.outMapselM83P_04 v) = outKey 4 0x04 v := rfl
theorem encode_inPlainM83P_05 : encode .inPlainM83P_05 = inKey 4 0x05 := rfl
theorem encode_outPlainM83P_05 (v : Byte) : encode (.outPlainM83P_05 v) = outKey 4 0x05 v := rfl
theorem encode_inPageM83P_06 : encode .inPageM83P_06 = inKey 4 0x06 := rfl
theorem encode_outPageM83P_06 (v : Byte) : encode (.outPageM83P_06 v) = outKey 4 0x06 v := rfl
theorem encode_inPageM83P_07 : encode .inPageM83P_07 = inKey 4 0x07 := rfl
theorem encode_outPageM83P_07 (v : Byte) : encode (.outPageM83P_07 v) = outKey 4 0x07 v := rfl
theorem encode_inLcdstatM83P_10 : encode .inLcdstatM83P_10 = inKey 4 0x10 := rfl
theorem encode_outLcdcmdM83P_10 (v : Byte) : encode (.outLcdcmdM83P_10 v) = outKey 4 0x10 v := rfl
theorem encode_inLcddataM83P_11 : encode .inLcddataM83P_11 = inKey 4 0x11 := rfl
theorem encode_outLcddataM83P_11 (v : Byte) : encode (.outLcddataM83P_11 v) = outKey 4 0x11 v := rfl
theorem encode_inLinkM83SE_00 : encode .inLinkM83SE_00 = inKey 5 0x00 := rfl
theorem encode_outLinkM83SE_00 (v : Byte) : encode (.outLinkM83SE_00 v) = outKey 5 0x00 v := rfl
theorem encode_inKeypadM83SE_01 : encode .inKeypadM83SE_01 = inKey 5 0x01 := rfl
theorem encode_outKeypadM83SE_01 (v : Byte) : encode (.outKeypadM83SE_01 v) = outKey 5 0x01 v := rfl
theorem encode_inPlainM83SE_02 : encode .inPlainM83SE_02 = inKey 5 0x02 := rfl
theorem encode_outPlainM83SE_02 (v : Byte) : encode (.outPlainM83SE_02 v) = outKey 5 0x02 v := rfl
theorem encode_inControlM83SE_03 : encode .inControlM83SE_03 = inKey 5 0x03 := rfl
theorem encode_outControlM83SE_03 (v : Byte) : encode (.outControlM83SE_03 v) = outKey 5 0x03 v := rfl
theorem encode_inStatusM83SE_04 : encode .inStatusM83SE_04 = inKey 5 0x04 := rfl
theorem encode_outMapselM83SE_04 (v : Byte) : encode (.outMapselM83SE_04 v) = outKey 5 0x04 v := rfl
theorem encode_inPageM83SE_05 : encode .inPageM83SE_05 = inKey 5 0x05 := rfl
theorem encode_outPageM83SE_05 (v : Byte) : encode (.outPageM83SE_05 v) = outKey 5 0x05 v := rfl
theorem encode_inPageM83SE_06 : encode .inPageM83SE_06 = inKey 5 0x06 := rfl
theorem encode_outPageM83SE_06 (v : Byte) : encode (.outPageM83SE_06 v) = outKey 5 0x06 v := rfl
theorem encode_inPageM83SE_07 : encode .inPageM83SE_07 = inKey 5 0x07 := rfl
theorem encode_outPageM83SE_07 (v : Byte) : encode (.outPageM83SE_07 v) = outKey 5 0x07 v := rfl
theorem encode_inLcdstatM83SE_10 : encode .inLcdstatM83SE_10 = inKey 5 0x10 := rfl
theorem encode_outLcdcmdM83SE_10 (v : Byte) : encode (.outLcdcmdM83SE_10 v) = outKey 5 0x10 v := rfl
theorem encode_inLcddataM83SE_11 : encode .inLcddataM83SE_11 = inKey 5 0x11 := rfl
theorem encode_outLcddataM83SE_11 (v : Byte) : encode (.outLcddataM83SE_11 v) = outKey 5 0x11 v := rfl
theorem encode_inLinkM84P_00 : encode .inLinkM84P_00 = inKey 6 0x00 := rfl
theorem encode_outLinkM84P_00 (v : Byte) : encode (.outLinkM84P_00 v) = outKey 6 0x00 v := rfl
theorem encode_inKeypadM84P_01 : encode .inKeypadM84P_01 = inKey 6 0x01 := rfl
theorem encode_outKeypadM84P_01 (v : Byte) : encode (.outKeypadM84P_01 v) = outKey 6 0x01 v := rfl
theorem encode_inPlainM84P_02 : encode .inPlainM84P_02 = inKey 6 0x02 := rfl
theorem encode_outPlainM84P_02 (v : Byte) : encode (.outPlainM84P_02 v) = outKey 6 0x02 v := rfl
theorem encode_inControlM84P_03 : encode .inControlM84P_03 = inKey 6 0x03 := rfl
theorem encode_outControlM84P_03 (v : Byte) : encode (.outControlM84P_03 v) = outKey 6 0x03 v := rfl
theorem encode_inStatusM84P_04 : encode .inStatusM84P_04 = inKey 6 0x04 := rfl
theorem encode_outMapselM84P_04 (v : Byte) : encode (.outMapselM84P_04 v) = outKey 6 0x04 v := rfl
theorem encode_inPageM84P_05 : encode .inPageM84P_05 = inKey 6 0x05 := rfl
theorem encode_outPageM84P_05 (v : Byte) : encode (.outPageM84P_05 v) = outKey 6 0x05 v := rfl
theorem encode_inPageM84P_06 : encode .inPageM84P_06 = inKey 6 0x06 := rfl
theorem encode_outPageM84P_06 (v : Byte) : encode (.outPageM84P_06 v) = outKey 6 0x06 v := rfl
theorem encode_inPageM84P_07 : encode .inPageM84P_07 = inKey 6 0x07 := rfl
theorem encode_outPageM84P_07 (v : Byte) : encode (.outPageM84P_07 v) = outKey 6 0x07 v := rfl
theorem encode_inLcdstatM84P_10 : encode .inLcdstatM84P_10 = inKey 6 0x10 := rfl
theorem encode_outLcdcmdM84P_10 (v : Byte) : encode (.outLcdcmdM84P_10 v) = outKey 6 0x10 v := rfl
theorem encode_inLcddataM84P_11 : encode .inLcddataM84P_11 = inKey 6 0x11 := rfl
theorem encode_outLcddataM84P_11 (v : Byte) : encode (.outLcddataM84P_11 v) = outKey 6 0x11 v := rfl
theorem encode_inLinkM84SE_00 : encode .inLinkM84SE_00 = inKey 7 0x00 := rfl
theorem encode_outLinkM84SE_00 (v : Byte) : encode (.outLinkM84SE_00 v) = outKey 7 0x00 v := rfl
theorem encode_inKeypadM84SE_01 : encode .inKeypadM84SE_01 = inKey 7 0x01 := rfl
theorem encode_outKeypadM84SE_01 (v : Byte) : encode (.outKeypadM84SE_01 v) = outKey 7 0x01 v := rfl
theorem encode_inPlainM84SE_02 : encode .inPlainM84SE_02 = inKey 7 0x02 := rfl
theorem encode_outPlainM84SE_02 (v : Byte) : encode (.outPlainM84SE_02 v) = outKey 7 0x02 v := rfl
theorem encode_inControlM84SE_03 : encode .inControlM84SE_03 = inKey 7 0x03 := rfl
theorem encode_outControlM84SE_03 (v : Byte) : encode (.outControlM84SE_03 v) = outKey 7 0x03 v := rfl
theorem encode_inStatusM84SE_04 : encode .inStatusM84SE_04 = inKey 7 0x04 := rfl
theorem encode_outMapselM84SE_04 (v : Byte) : encode (.outMapselM84SE_04 v) = outKey 7 0x04 v := rfl
theorem encode_inPageM84SE_05 : encode .inPageM84SE_05 = inKey 7 0x05 := rfl
theorem encode_outPageM84SE_05 (v : Byte) : encode (.outPageM84SE_05 v) = outKey 7 0x05 v := rfl
theorem encode_inPageM84SE_06 : encode .inPageM84SE_06 = inKey 7 0x06 := rfl
theorem encode_outPageM84SE_06 (v : Byte) : encode (.outPageM84SE_06 v) = outKey 7 0x06 v := rfl
theorem encode_inPageM84SE_07 : encode .inPageM84SE_07 = inKey 7 0x07 := rfl
theorem encode_outPageM84SE_07 (v : Byte) : encode (.outPageM84SE_07 v) = outKey 7 0x07 v := rfl
theorem encode_inLcdstatM84SE_10 : encode .inLcdstatM84SE_10 = inKey 7 0x10 := rfl
theorem encode_outLcdcmdM84SE_10 (v : Byte) : encode (.outLcdcmdM84SE_10 v) = outKey 7 0x10 v := rfl
theorem encode_inLcddataM84SE_11 : encode .inLcddataM84SE_11 = inKey 7 0x11 := rfl
theorem encode_outLcddataM84SE_11 (v : Byte) : encode (.outLcddataM84SE_11 v) = outKey 7 0x11 v := rfl
theorem encode_inUnmapped (tag : BitVec 4) (p : Byte) : encode (.inUnmapped tag p) = inKey tag p := rfl
theorem encode_outUnmapped (tag : BitVec 4) (p : Byte) (v : Byte) : encode (.outUnmapped tag p v) = outKey tag p v := rfl
theorem encode_memrd (a : Addr) : encode (.memrd a) = [0, a.extractLsb' 0 8, a.extractLsb' 8 8] := rfl
theorem encode_memwr (a : Addr) (v : Byte) : encode (.memwr a v) = [1, a.extractLsb' 0 8, a.extractLsb' 8 8, v] := rfl
theorem encode_tick (h : Bool) : encode (.tick h) = [bitByte h] := rfl
theorem encode_reset (m : Byte) : encode (.reset m) = [m] := rfl
theorem encode_hostexit : encode .hostexit = [] := rfl
theorem encode_hostkeys (k : Vector Byte 8) (o : Bool) : encode (.hostkeys k o) = k.toList ++ [bitByte o] := rfl

end Sys2Proof.Machine
end

