-- ==== Sys2Proof/Laws/Decode.lean ====
section
/-! SUPPORT. Decode.lean: the small lemmas of the decoder: the rows of a key and of a command byte, the fields of the key
bytes, the bytes of an address, a bit and the key rows. -/

namespace Sys2Proof

/-- A decoded IN row's own encoding is its key, whatever the tag. -/
theorem encode_inRow (tag : BitVec 4) (p : Byte) : encode (inRow tag p) = inKey tag p ∧ (inRow tag p).iface = .port := by
  unfold inRow
  split
  · unfold inRowM85; split <;> exact ⟨rfl, rfl⟩
  · unfold inRowM86; split <;> exact ⟨rfl, rfl⟩
  · unfold inRowM82; split <;> exact ⟨rfl, rfl⟩
  · unfold inRowM83; split <;> exact ⟨rfl, rfl⟩
  · unfold inRowM83P; split <;> exact ⟨rfl, rfl⟩
  · unfold inRowM83SE; split <;> exact ⟨rfl, rfl⟩
  · unfold inRowM84P; split <;> exact ⟨rfl, rfl⟩
  · unfold inRowM84SE; split <;> exact ⟨rfl, rfl⟩
  · exact ⟨rfl, rfl⟩

/-- A decoded OUT row's own encoding is its key and data, whatever the tag. -/
theorem encode_outRow (tag : BitVec 4) (p v : Byte) :
    encode (outRow tag p v) = outKey tag p v ∧ (outRow tag p v).iface = .port := by
  unfold outRow
  split
  · unfold outRowM85; split <;> exact ⟨rfl, rfl⟩
  · unfold outRowM86; split <;> exact ⟨rfl, rfl⟩
  · unfold outRowM82; split <;> exact ⟨rfl, rfl⟩
  · unfold outRowM83; split <;> exact ⟨rfl, rfl⟩
  · unfold outRowM83P; split <;> exact ⟨rfl, rfl⟩
  · unfold outRowM83SE; split <;> exact ⟨rfl, rfl⟩
  · unfold outRowM84P; split <;> exact ⟨rfl, rfl⟩
  · unfold outRowM84SE; split <;> exact ⟨rfl, rfl⟩
  · exact ⟨rfl, rfl⟩

/-- A decoded LCD command's own encoding is its byte, and it is well-formed. -/
theorem encode_lcdRow :
    ∀ v : Byte, encode (lcdRow v) = [v] ∧ (lcdRow v).iface = .lcdcmd ∧ (lcdRow v).wellFormed = true := by
  decide +kernel

/-- The fields of the key that a port address forms on a model (30_encoding.md R62). -/
theorem portKey_fields (m : Model) (p : Byte) :
    (portKey m p).extractLsb' 0 8 = p ∧ (portKey m p).extractLsb' 8 4 = tagField m := by
  have h : ∀ j, j < 8 → m.cfg.tag.getLsbD j = false := by cases m <;> decide
  constructor <;> apply BitVec.eq_of_getLsbD_eq <;> intro j hj
  · have h' := h j hj
    have hj' : j < 12 := by omega
    simp only [BitVec.getLsbD_eq_getElem hj'] at h'
    simp [portKey, h', hj, hj']
  · simp [portKey, tagField, hj]

/-- The bytes of an IN key decode to the key's row. -/
theorem decode_inKey (tag : BitVec 4) (p : Byte) (rest : List Byte) :
    decode .port (inKey tag p ++ rest) = .ok (inRow tag p, rest) := by
  have h : (0#4 ++ tag).extractLsb' 5 3 = 0 ∧ (0#4 ++ tag).getLsbD 4 = false ∧ (0#4 ++ tag).extractLsb' 0 4 = tag := by
    revert tag; decide
  simp only [decode, inKey, List.cons_append, List.nil_append, decodePort, h.1, h.2.1, h.2.2]; rfl

/-- The bytes of an OUT key and its data decode to the key's row. -/
theorem decode_outKey (tag : BitVec 4) (p v : Byte) (rest : List Byte) :
    decode .port (outKey tag p v ++ rest) = .ok (outRow tag p v, rest) := by
  have h : (1#4 ++ tag).extractLsb' 5 3 = 0 ∧ (1#4 ++ tag).getLsbD 4 = true ∧ (1#4 ++ tag).extractLsb' 0 4 = tag := by
    revert tag; decide
  simp only [decode, outKey, List.cons_append, List.nil_append, decodePort, h.1, h.2.1, h.2.2]; rfl

/-- The two bytes of an address, put together, are the address. -/
theorem addr_bytes (a : Addr) : a.extractLsb' 8 8 ++ a.extractLsb' 0 8 = a := by
  apply BitVec.eq_of_getLsbD_eq
  intro i hi
  rw [BitVec.getLsbD_append, BitVec.getLsbD_extractLsb', BitVec.getLsbD_extractLsb']
  split
  · simp [*]
  · rw [show 8 + (i - 8) = i by omega]; simp; omega

/-- An address put together from two bytes gives them back. -/
theorem addr_of_bytes (lo hi : Byte) : (hi ++ lo).extractLsb' 0 8 = lo ∧ (hi ++ lo).extractLsb' 8 8 = hi := by
  constructor <;> apply BitVec.eq_of_getLsbD_eq <;> intro i h <;>
    rw [BitVec.getLsbD_extractLsb', BitVec.getLsbD_append] <;> simp [h]

/-- The spare bits of a bit's byte are 0 and its bit 0 is the bit. -/
theorem bitByte_bit (b : Bool) : (bitByte b).extractLsb' 1 7 = 0 ∧ (bitByte b).getLsbD 0 = b := by cases b <;> decide

/-- A byte with no spare bit set is its bit's byte. -/
theorem bitByte_of_bit (h : Byte) : h.extractLsb' 1 7 = 0 → bitByte (h.getLsbD 0) = h := by revert h; decide +kernel

/-- The key rows as a list of eight bytes. -/
theorem keys_toList (k : Vector Byte 8) : k.toList = [k[0], k[1], k[2], k[3], k[4], k[5], k[6], k[7]] := by
  apply List.ext_getElem <;> simp
  intro i h; interval_cases i <;> rfl

/-- The key rows from their eight bytes. -/
theorem keys_of_bytes (k : Vector Byte 8) : #v[k[0], k[1], k[2], k[3], k[4], k[5], k[6], k[7]] = k := by
  ext i h; interval_cases i <;> rfl

end Sys2Proof
end

