-- ==== Sys2Proof/Laws/Lcd.lean ====
section
/-! SUPPORT. Lcd.lean: everything the LCD controller's shared operations can do, said once for each. -/

namespace Sys2Proof.Machine

/-- A buffer byte after one is written. -/
theorem byteAt_setByte (l : Lcd) (r y : BitVec 6) (b c : Nat) (v : Byte) (hc : c < 16) :
    (l.setByte r b v).byteAt y c = if y = r ∧ c = b then v else l.byteAt y c := by
  unfold Lcd.setByte Lcd.byteAt
  simp only []
  by_cases hr : y = r
  · subst hr
    simp only [Vector.getElem_set_self, true_and]
    by_cases hb : c = b
    · subst hb; simp [hc]
    · rw [if_neg hb]; simp [hc, Ne.symm hb]
  · have : r.toNat ≠ y.toNat := fun h => hr (BitVec.eq_of_toNat_eq h.symm)
    simp [Vector.getElem_set_ne, this, hr]

/-- The range test in numbers: up to column 14 in 8-bit mode, 19 in 6-bit mode. -/
theorem inRange_iff (l : Lcd) : l.inRange = decide (l.col.toNat ≤ if l.status.getLsbD 6 then 14 else 19) := by
  unfold Lcd.inRange boundary lcdMode8; cases l.status.getLsbD 6 <;> rfl

/-- A bit of two bytes put together, high byte first. -/
theorem getLsbD_bytes (a b : Byte) (k : Nat) : (a ++ b).getLsbD k = if k < 8 then b.getLsbD k else a.getLsbD (k - 8) := by
  rw [BitVec.getLsbD_append]

/-- `Extract6` reads the six pixels of the column, leftmost in bit 5 (42_lcd.md R159). -/
theorem extract6_pixel (l : Lcd) (r : BitVec 6) (c : BitVec 5) (j : Nat) (hj : j < 6) :
    (l.extract6 r c).getLsbD j = l.pixel r (6 * c.toNat + (5 - j)) := by
  have hw : ((l.word r c >>> (10 - colShift c)).setWidth 6).getLsbD j = (l.word r c).getLsbD (10 - colShift c + j) := by
    simp [hj]
  unfold Lcd.extract6
  rw [hw]
  unfold Lcd.word Lcd.pixel
  rw [getLsbD_bytes]
  unfold colShift colByte
  generalize c.toNat = n
  split
  · have e1 : (6 * n + (5 - j)) / 8 = 6 * n / 8 + 1 := by omega
    have e2 : 7 - (6 * n + (5 - j)) % 8 = 10 - 6 * n % 8 + j := by omega
    rw [e1, e2]
  · have e1 : (6 * n + (5 - j)) / 8 = 6 * n / 8 := by omega
    have e2 : 7 - (6 * n + (5 - j)) % 8 = 10 - 6 * n % 8 + j - 8 := by omega
    rw [e1, e2]

/-- The working word with a field replaced: the field's six bits are new, the other ten as before. -/
theorem insertWord_bit (w : BitVec 16) (k : Nat) (hk : k ≤ 6) (u : BitVec 6) (i : Nat) (hi : i < 16) :
    (insertWord w k u).getLsbD i = if 10 - k ≤ i ∧ i < 16 - k then u.getLsbD (i - (10 - k)) else w.getLsbD i := by
  unfold insertWord
  interval_cases k <;> interval_cases i <;> simp

/-- `Insert6` writes the six pixels of the column, leftmost from bit 5, and no other pixel (42_lcd.md R159). -/
theorem insert6_pixel (l : Lcd) (r y : BitVec 6) (c : BitVec 5) (u : BitVec 6) (x : Nat) (hx : x < 128) :
    (l.insert6 r c u).pixel y x =
      if y = r ∧ 6 * c.toNat ≤ x ∧ x < 6 * c.toNat + 6 then u.getLsbD (5 - (x - 6 * c.toNat)) else l.pixel y x := by
  unfold Lcd.insert6 Lcd.pixel
  simp only []
  have hs : colShift c ≤ 6 := by unfold colShift; omega
  rw [byteAt_setByte _ _ _ _ _ _ (by omega), byteAt_setByte _ _ _ _ _ _ (by omega)]
  by_cases hy : y = r
  · subst hy
    simp only [true_and]
    split
    · rename_i h
      rw [BitVec.getLsbD_extractLsb', insertWord_bit _ _ hs _ _ (by omega)]
      unfold Lcd.word; rw [getLsbD_bytes]
      unfold colShift colByte at *
      simp only [show 7 - x % 8 < 8 by omega, decide_true, Bool.true_and, Nat.zero_add, if_true]
      generalize c.toNat = n at *
      by_cases hin : 6 * n ≤ x ∧ x < 6 * n + 6
      · rw [if_pos hin, if_pos (by omega)]; congr 1; omega
      · rw [if_neg hin, if_neg (by omega), h]
    · split
      · rename_i h
        rw [BitVec.getLsbD_extractLsb', insertWord_bit _ _ hs _ _ (by omega)]
        unfold Lcd.word; rw [getLsbD_bytes]
        unfold colShift colByte at *
        simp only [show 7 - x % 8 < 8 by omega, decide_true, Bool.true_and]
        generalize c.toNat = n at *
        by_cases hin : 6 * n ≤ x ∧ x < 6 * n + 6
        · rw [if_pos hin, if_pos (by omega)]; congr 1; omega
        · rw [if_neg hin, if_neg (by omega), if_neg (by omega), h]; congr 1; omega
      · unfold colByte at *
        rw [if_neg (by omega)]
  · simp [hy]

/-- A datum stored in 8-bit mode. -/
theorem store_mode8 (l : Lcd) (v : Byte) (h : l.status.getLsbD 6 = true) :
    l.store v = if l.col.toNat ≤ 14 then l.setByte l.row l.col.toNat v else l := by
  unfold Lcd.store; rw [inRange_iff, h]; simp [lcdMode8, show l.status[6] = true from h]

/-- A datum stored in 6-bit mode. -/
theorem store_mode6 (l : Lcd) (v : Byte) (h : l.status.getLsbD 6 = false) :
    l.store v = if l.col.toNat ≤ 19 then l.insert6 l.row l.col (v.extractLsb' 0 6) else l := by
  unfold Lcd.store; rw [inRange_iff, h]; simp [lcdMode8, show l.status[6] = false from h]

/-- A stored datum changes the buffer alone. -/
theorem store_frame (l : Lcd) (v : Byte) : l.store v = { l with buf := (l.store v).buf } := by
  unfold Lcd.store Lcd.insert6 Lcd.setByte; split <;> [(split <;> rfl); rfl]

/-- `Advance` moves the cursor alone. -/
theorem advance_frame (l : Lcd) : l.advance = { l with row := l.advance.row, col := l.advance.col } := by
  unfold Lcd.advance; split <;> [rfl; (split <;> [rfl; (split <;> rfl)])]

/-- A data read: what it returns and leaves (42_lcd.md R155). -/
theorem lcdRead_spec (s : State) :
    ∃ l b, lcdRead s = (s.setLcd l).answer (some (.byte b)) none ∧ l.delay = false ∧
      (s.lcd.delay = true → l = { s.lcd with delay := false } ∧ b = 0x00) ∧
      (s.lcd.delay = false → l = s.lcd.advance ∧ b = s.lcd.datum) := by
  unfold lcdRead
  by_cases h : s.lcd.delay = true
  · rw [if_pos h]
    exact ⟨_, _, rfl, rfl, fun _ => ⟨rfl, rfl⟩, fun h' => by simp [h] at h'⟩
  · rw [if_neg h]
    refine ⟨_, _, rfl, ?_, fun h' => absurd h' h, fun _ => ⟨rfl, rfl⟩⟩
    rw [advance_frame]; simpa using h

/-- A command: it changes the controller and the strobe alone, leaves the buffer and arms the delay flag
(42_lcd.md R141, R142). -/
theorem lcdCommand_spec (v : Byte) (s : State) :
    ∃ l e, lcdCommand v s = (s.setLcd l).answer none e ∧ l.buf = s.lcd.buf ∧ l.delay = true := by
  unfold lcdCommand
  split
  · exact ⟨_, _, rfl, rfl, rfl⟩
  split
  · exact ⟨_, _, rfl, rfl, rfl⟩
  split
  · exact ⟨_, _, rfl, rfl, rfl⟩
  split
  · exact ⟨_, _, rfl, rfl, rfl⟩
  split <;> exact ⟨_, _, rfl, rfl, rfl⟩

/-- The bits of the status byte after `LCD.status[6] <- b`. -/
theorem withMode8_bit :
    ∀ (c : Byte) (b : Bool) (j : Fin 8), (withMode8 c b).getLsbD j.val = if j = 6 then b else c.getLsbD j.val := by
  decide +kernel

/-- The bits of the status byte after `LCD.status[5] <- b`. -/
theorem withOn_bit :
    ∀ (c : Byte) (b : Bool) (j : Fin 8), (withOn c b).getLsbD j.val = if j = 5 then b else c.getLsbD j.val := by
  decide +kernel

/-- The bits of the status byte after `LCD.status[1:0] <- d`. -/
theorem withDir_bit : ∀ (c : Byte) (d : BitVec 2) (j : Fin 8),
    (withDir c d).getLsbD j.val = if j.val < 2 then d.getLsbD j.val else c.getLsbD j.val := by
  decide +kernel

end Sys2Proof.Machine
end

