-- ==== Sys2Proof/Laws/Memory.lean ====
section
/-! SUPPORT. Memory.lean: the laws of the sparse memory: read after write, the canonical form, the range of the indices. -/

namespace Sys2Proof.Machine

/-- A read after a write gives the value written, every other index reads as before. -/
theorem Memory.read_write (m : Memory) (i j : Nat) (v : Byte) :
    Memory.read (Memory.write m i v) j = if j = i then some v else Memory.read m j := by
  induction m with
  | nil => simp [Memory.write, Memory.read]
  | cons c m ih =>
    obtain ⟨a, w⟩ := c
    unfold Memory.write
    split
    · simp [Memory.read]
    · split
      · subst_vars; simp only [Memory.read]; split <;> simp_all
      · rename_i hne
        simp only [Memory.read, ih]
        by_cases hj : j = a
        · subst hj; simp [Ne.symm hne]
        · simp [hj]

/-- The entries of a written memory are the new one and old ones. -/
theorem Memory.mem_write {m : Memory} {i : Nat} {v : Byte} {c : Host.Cell} (h : c ∈ Memory.write m i v) :
    c = (i, v) ∨ c ∈ m := by
  induction m with
  | nil => simpa [Memory.write] using h
  | cons d m ih =>
    obtain ⟨a, w⟩ := d
    unfold Memory.write at h
    split at h
    · simpa using h
    · split at h
      · simp only [List.mem_cons] at h ⊢; tauto
      · simp only [List.mem_cons] at h ⊢
        rcases h with h | h
        · exact .inr (.inl h)
        · exact (ih h).imp_right .inr

/-- A memory is in canonical form exactly when its indices strictly rise. -/
theorem Memory.wf_iff (m : Memory) : Memory.wf m = true ↔ m.Pairwise (fun c d => c.1 < d.1) := by
  induction m with
  | nil => simp [Memory.wf]
  | cons c m ih =>
    cases m with
    | nil => simp [Memory.wf]
    | cons d m =>
      simp only [Memory.wf, Bool.and_eq_true, decide_eq_true_eq, ih, List.pairwise_cons, List.mem_cons]
      constructor
      · rintro ⟨h, h1, h2⟩
        exact ⟨fun x hx => hx.elim (fun e => e ▸ h) (fun hx => h.trans (h1 x hx)), h1, h2⟩
      · rintro ⟨h, h1, h2⟩
        exact ⟨h d (.inl rfl), h1, h2⟩

/-- A write keeps the canonical form. -/
theorem Memory.wf_write (m : Memory) (i : Nat) (v : Byte) (h : Memory.wf m = true) :
    Memory.wf (Memory.write m i v) = true := by
  rw [Memory.wf_iff] at h ⊢
  induction m with
  | nil => simp [Memory.write]
  | cons c m ih =>
    obtain ⟨a, w⟩ := c
    rw [List.pairwise_cons] at h
    unfold Memory.write
    split
    · rename_i hlt
      refine List.pairwise_cons.2 ⟨?_, List.pairwise_cons.2 h⟩
      intro d hd
      rcases List.mem_cons.1 hd with rfl | hd
      · exact hlt
      · exact hlt.trans (h.1 d hd)
    · split
      · rename_i _ he; subst he; exact List.pairwise_cons.2 h
      · refine List.pairwise_cons.2 ⟨fun d hd => ?_, ih h.2⟩
        rcases Memory.mem_write hd with rfl | hd
        · exact Nat.lt_of_le_of_ne (Nat.le_of_not_lt ‹_›) (Ne.symm ‹_›)
        · exact h.1 d hd

/-- A write inside a range keeps every index inside it. -/
theorem Memory.bound_write {m : Memory} {n i : Nat} {v : Byte} (h : ∀ c ∈ m, c.1 < n) (hi : i < n) :
    ∀ c ∈ Memory.write m i v, c.1 < n := by
  intro c hc
  rcases Memory.mem_write hc with rfl | hc
  · exact hi
  · exact h c hc

/-- In a canonical memory the same bytes are the same list. -/
theorem Memory.ext_of_wf {m n : Memory} (hm : Memory.wf m = true) (hn : Memory.wf n = true)
    (h : ∀ i, Memory.read m i = Memory.read n i) : m = n := by
  rw [Memory.wf_iff] at hm hn
  have below : ∀ {k : Memory} {i : Nat}, (∀ c ∈ k, i < c.1) → Memory.read k i = none := by
    intro k i hk
    induction k with
    | nil => rfl
    | cons c k ih =>
      simp only [Memory.read]
      rw [if_neg (Nat.ne_of_lt (hk c (.head _)))]
      exact ih fun d hd => hk d (.tail _ hd)
  induction m generalizing n with
  | nil =>
    cases n with
    | nil => rfl
    | cons d n => have := h d.1; simp [Memory.read] at this
  | cons c m ih =>
    cases n with
    | nil => have := h c.1; simp [Memory.read] at this
    | cons d n =>
      rw [List.pairwise_cons] at hm hn
      have hcd : c.1 = d.1 := by
        rcases Nat.lt_trichotomy c.1 d.1 with hlt | he | hlt
        · have := h c.1
          rw [below (k := d :: n)] at this
          · simp [Memory.read] at this
          · intro x hx
            rcases List.mem_cons.1 hx with rfl | hx
            · exact hlt
            · exact hlt.trans (hn.1 x hx)
        · exact he
        · have := h d.1
          rw [below (k := c :: m)] at this
          · simp [Memory.read] at this
          · intro x hx
            rcases List.mem_cons.1 hx with rfl | hx
            · exact hlt
            · exact hlt.trans (hm.1 x hx)
      have hv : c.2 = d.2 := by have := h c.1; simp [Memory.read, hcd] at this; exact this
      have : c = d := Prod.ext hcd hv
      subst this
      congr 1
      refine ih hm.2 hn.2 fun i => ?_
      by_cases hi : i = c.1
      · subst hi; rw [below hm.1, below hn.1]
      · have := h i; simpa [Memory.read, hi] using this

/-- Nothing is listed after reset, in canonical form. -/
theorem Memory.wf_reset : Memory.wf State.reset.ram = true ∧ Memory.wf State.reset.rom = true := ⟨rfl, rfl⟩

end Sys2Proof.Machine
end

