-- ==== Sys2Proof/Laws/Mapper.lean ====
section
/-! SUPPORT. Mapper.lean: the laws of the page offsets and of `Map(cfg, Ports)`, and of the byte a memory address shows. -/

namespace Sys2Proof.Machine

/-- In an arena of a power of two bytes a page's offset is the page modulo the number of pages, times the window size
(40_mapper.md R83). -/
theorem pageOff_pow (page j : Nat) (hj : 14 ≤ j) : pageOff page (2 ^ j) = page % 2 ^ (j - 14) * 0x4000 := by
  unfold pageOff Config.windowSize
  rw [Nat.and_two_pow_sub_one_eq_mod]
  have : 2 ^ j = 2 ^ (j - 14) * 0x4000 := by
    rw [show (0x4000 : Nat) = 2 ^ 14 by norm_num, ← pow_add]; congr 1; omega
  rw [this, Nat.mul_mod_mul_right]

/-- The sizes of a model's arenas are powers of two, at least two windows long (00_scope.md R7). -/
theorem arena_pow (m : Model) : ∃ j k, 15 ≤ j ∧ 15 ≤ k ∧ m.cfg.romSize = 2 ^ j ∧ m.cfg.ramSize = 2 ^ k := by
  cases m
  · exact ⟨17, 15, by decide⟩
  · exact ⟨18, 17, by decide⟩
  · exact ⟨17, 15, by decide⟩
  · exact ⟨18, 15, by decide⟩
  · exact ⟨19, 15, by decide⟩
  · exact ⟨21, 17, by decide⟩
  · exact ⟨20, 17, by decide⟩
  · exact ⟨21, 17, by decide⟩

/-- The banking registers of a family (10_state.md R18, R19). -/
def bankingRegisters : Family → List (Fin 32)
  | .A i => [i]
  | .B => [5, 6]
  | .C => [0, 2, 4]
  | .D _ _ => [4, 6, 7, 10]

/-- The windows depend on the banking registers alone. -/
theorem mapPages_set (c : Cfg) (ports : Vector Byte 32) (i : Fin 32) (v : Byte) (h : i ∉ bankingRegisters c.family) :
    mapPages c (ports.set i v) = mapPages c ports := by
  have key : ∀ k : Fin 32, i ≠ k → (ports.set i v)[k] = ports[k] := fun k hk =>
    Vector.getElem_set_ne i.isLt k.isLt (fun h' => hk (Fin.ext h'))
  unfold mapPages
  cases hf : c.family <;>
    simp only [hf, bankingRegisters, List.mem_cons, List.not_mem_nil, or_false, not_or] at h ⊢
  · rw [key _ h]
  · rw [show (ports.set i v)[5] = ports[5] from key 5 h.1, show (ports.set i v)[6] = ports[6] from key 6 h.2]
  · rw [show (ports.set i v)[0] = ports[0] from key 0 h.1, show (ports.set i v)[2] = ports[2] from key 2 h.2.1,
      show (ports.set i v)[4] = ports[4] from key 4 h.2.2]
  · rw [show (ports.set i v)[4] = ports[4] from key 4 h.1, show (ports.set i v)[6] = ports[6] from key 6 h.2.1,
      show (ports.set i v)[7] = ports[7] from key 7 h.2.2.1, show (ports.set i v)[10] = ports[10] from key 10 h.2.2.2]

/-- What a memory address shows after a byte of RAM is written. -/
theorem peek_writeRam (s : State) (b : Addr) (i : Nat) (v : Byte) :
    (s.writeRam i v).peek b = if (s.pageOf b).arena = .ram ∧ s.arenaIndex b = i then v else s.peek b := by
  unfold State.peek State.arenaByte
  show (match (s.pageOf b).arena with
    | .rom => (s.writeRam i v).romByte (s.arenaIndex b)
    | .ram => (s.writeRam i v).ramByte (s.arenaIndex b)) = _
  cases (s.pageOf b).arena
  · simp; rfl
  · simp [State.ramByte, State.writeRam, Memory.read_write]; split <;> simp_all

end Sys2Proof.Machine
end

