-- ==== Sys2Proof/Laws/PerInstr.lean ====
section
/-! SUPPORT. PerInstr.lean: the family EncodedSize, one lemma per constructor: how many bytes an operation has at its
interface (30_encoding.md R60, R70: a port transaction is a key and at most one data byte, an LCD command one byte). -/

namespace Sys2Proof.Laws.EncodedSize

/-- The least and the greatest number of bytes of an operation at each interface. -/
def bounds : Iface → Nat × Nat
  | .mem => (3, 4)
  | .port => (2, 3)
  | .lcdcmd => (1, 1)
  | .tick => (1, 1)
  | .reset => (1, 1)
  | .hostexit => (0, 0)
  | .hostkeys => (9, 9)

/-- The encoding of a well-formed operation has a number of bytes that its interface's format has. -/
def Statement (i : Instr) : Prop :=
  i.wellFormed = true → (bounds i.iface).1 ≤ (encode i).length ∧ (encode i).length ≤ (bounds i.iface).2

theorem lcdSetcontrast (c : BitVec 6) : Statement (.lcdSetcontrast c) := fun _ => ⟨Nat.le_of_ble_eq_true rfl, Nat.le_of_ble_eq_true rfl⟩
theorem lcdSetrow (r : BitVec 6) : Statement (.lcdSetrow r) := fun _ => ⟨Nat.le_of_ble_eq_true rfl, Nat.le_of_ble_eq_true rfl⟩
theorem lcdSetscroll (z : BitVec 6) : Statement (.lcdSetscroll z) := fun _ => ⟨Nat.le_of_ble_eq_true rfl, Nat.le_of_ble_eq_true rfl⟩
theorem lcdSetcol (x : BitVec 1) (y : BitVec 4) : Statement (.lcdSetcol x y) := fun _ => ⟨Nat.le_of_ble_eq_true rfl, Nat.le_of_ble_eq_true rfl⟩
theorem lcdMode6 (x : BitVec 2) : Statement (.lcdMode6 x) := fun _ => ⟨Nat.le_of_ble_eq_true rfl, Nat.le_of_ble_eq_true rfl⟩
theorem lcdMode8 (x : BitVec 2) : Statement (.lcdMode8 x) := fun _ => ⟨Nat.le_of_ble_eq_true rfl, Nat.le_of_ble_eq_true rfl⟩
theorem lcdOff (x : BitVec 2) : Statement (.lcdOff x) := fun _ => ⟨Nat.le_of_ble_eq_true rfl, Nat.le_of_ble_eq_true rfl⟩
theorem lcdOn (x : BitVec 2) : Statement (.lcdOn x) := fun _ => ⟨Nat.le_of_ble_eq_true rfl, Nat.le_of_ble_eq_true rfl⟩
theorem lcdDirRowdec (x : BitVec 2) : Statement (.lcdDirRowdec x) := fun _ => ⟨Nat.le_of_ble_eq_true rfl, Nat.le_of_ble_eq_true rfl⟩
theorem lcdDirRowinc (x : BitVec 2) : Statement (.lcdDirRowinc x) := fun _ => ⟨Nat.le_of_ble_eq_true rfl, Nat.le_of_ble_eq_true rfl⟩
theorem lcdDirColdec (x : BitVec 2) : Statement (.lcdDirColdec x) := fun _ => ⟨Nat.le_of_ble_eq_true rfl, Nat.le_of_ble_eq_true rfl⟩
theorem lcdDirColinc (x : BitVec 2) : Statement (.lcdDirColinc x) := fun _ => ⟨Nat.le_of_ble_eq_true rfl, Nat.le_of_ble_eq_true rfl⟩
theorem inPlainM85_00 : Statement .inPlainM85_00 := fun _ => ⟨Nat.le_of_ble_eq_true rfl, Nat.le_of_ble_eq_true rfl⟩
theorem outPlainM85_00 (v : Byte) : Statement (.outPlainM85_00 v) := fun _ => ⟨Nat.le_of_ble_eq_true rfl, Nat.le_of_ble_eq_true rfl⟩
theorem inKeypadM85_01 : Statement .inKeypadM85_01 := fun _ => ⟨Nat.le_of_ble_eq_true rfl, Nat.le_of_ble_eq_true rfl⟩
theorem outKeypadM85_01 (v : Byte) : Statement (.outKeypadM85_01 v) := fun _ => ⟨Nat.le_of_ble_eq_true rfl, Nat.le_of_ble_eq_true rfl⟩
theorem inContrastM85_02 : Statement .inContrastM85_02 := fun _ => ⟨Nat.le_of_ble_eq_true rfl, Nat.le_of_ble_eq_true rfl⟩
theorem outContrastM85_02 (v : Byte) : Statement (.outContrastM85_02 v) := fun _ => ⟨Nat.le_of_ble_eq_true rfl, Nat.le_of_ble_eq_true rfl⟩
theorem inStatusM85_03 : Statement .inStatusM85_03 := fun _ => ⟨Nat.le_of_ble_eq_true rfl, Nat.le_of_ble_eq_true rfl⟩
theorem outControlM85_03 (v : Byte) : Statement (.outControlM85_03 v) := fun _ => ⟨Nat.le_of_ble_eq_true rfl, Nat.le_of_ble_eq_true rfl⟩
theorem inPlainM85_04 : Statement .inPlainM85_04 := fun _ => ⟨Nat.le_of_ble_eq_true rfl, Nat.le_of_ble_eq_true rfl⟩
theorem outPlainM85_04 (v : Byte) : Statement (.outPlainM85_04 v) := fun _ => ⟨Nat.le_of_ble_eq_true rfl, Nat.le_of_ble_eq_true rfl⟩
theorem inPageM85_05 : Statement .inPageM85_05 := fun _ => ⟨Nat.le_of_ble_eq_true rfl, Nat.le_of_ble_eq_true rfl⟩
theorem outPageM85_05 (v : Byte) : Statement (.outPageM85_05 v) := fun _ => ⟨Nat.le_of_ble_eq_true rfl, Nat.le_of_ble_eq_true rfl⟩
theorem inPlainM85_06 : Statement .inPlainM85_06 := fun _ => ⟨Nat.le_of_ble_eq_true rfl, Nat.le_of_ble_eq_true rfl⟩
theorem outPlainM85_06 (v : Byte) : Statement (.outPlainM85_06 v) := fun _ => ⟨Nat.le_of_ble_eq_true rfl, Nat.le_of_ble_eq_true rfl⟩
theorem inLinkM85_07 : Statement .inLinkM85_07 := fun _ => ⟨Nat.le_of_ble_eq_true rfl, Nat.le_of_ble_eq_true rfl⟩
theorem outLinkM85_07 (v : Byte) : Statement (.outLinkM85_07 v) := fun _ => ⟨Nat.le_of_ble_eq_true rfl, Nat.le_of_ble_eq_true rfl⟩
theorem inPlainM86_00 : Statement .inPlainM86_00 := fun _ => ⟨Nat.le_of_ble_eq_true rfl, Nat.le_of_ble_eq_true rfl⟩
theorem outPlainM86_00 (v : Byte) : Statement (.outPlainM86_00 v) := fun _ => ⟨Nat.le_of_ble_eq_true rfl, Nat.le_of_ble_eq_true rfl⟩
theorem inKeypadM86_01 : Statement .inKeypadM86_01 := fun _ => ⟨Nat.le_of_ble_eq_true rfl, Nat.le_of_ble_eq_true rfl⟩
theorem outKeypadM86_01 (v : Byte) : Statement (.outKeypadM86_01 v) := fun _ => ⟨Nat.le_of_ble_eq_true rfl, Nat.le_of_ble_eq_true rfl⟩
theorem inContrastM86_02 : Statement .inContrastM86_02 := fun _ => ⟨Nat.le_of_ble_eq_true rfl, Nat.le_of_ble_eq_true rfl⟩
theorem outContrastM86_02 (v : Byte) : Statement (.outContrastM86_02 v) := fun _ => ⟨Nat.le_of_ble_eq_true rfl, Nat.le_of_ble_eq_true rfl⟩
theorem inStatusM86_03 : Statement .inStatusM86_03 := fun _ => ⟨Nat.le_of_ble_eq_true rfl, Nat.le_of_ble_eq_true rfl⟩
theorem outControlM86_03 (v : Byte) : Statement (.outControlM86_03 v) := fun _ => ⟨Nat.le_of_ble_eq_true rfl, Nat.le_of_ble_eq_true rfl⟩
theorem inPlainM86_04 : Statement .inPlainM86_04 := fun _ => ⟨Nat.le_of_ble_eq_true rfl, Nat.le_of_ble_eq_true rfl⟩
theorem outPlainM86_04 (v : Byte) : Statement (.outPlainM86_04 v) := fun _ => ⟨Nat.le_of_ble_eq_true rfl, Nat.le_of_ble_eq_true rfl⟩
theorem inPageM86_05 : Statement .inPageM86_05 := fun _ => ⟨Nat.le_of_ble_eq_true rfl, Nat.le_of_ble_eq_true rfl⟩
theorem outPageM86_05 (v : Byte) : Statement (.outPageM86_05 v) := fun _ => ⟨Nat.le_of_ble_eq_true rfl, Nat.le_of_ble_eq_true rfl⟩
theorem inPageM86_06 : Statement .inPageM86_06 := fun _ => ⟨Nat.le_of_ble_eq_true rfl, Nat.le_of_ble_eq_true rfl⟩
theorem outPageM86_06 (v : Byte) : Statement (.outPageM86_06 v) := fun _ => ⟨Nat.le_of_ble_eq_true rfl, Nat.le_of_ble_eq_true rfl⟩
theorem inLinkM86_07 : Statement .inLinkM86_07 := fun _ => ⟨Nat.le_of_ble_eq_true rfl, Nat.le_of_ble_eq_true rfl⟩
theorem outLinkM86_07 (v : Byte) : Statement (.outLinkM86_07 v) := fun _ => ⟨Nat.le_of_ble_eq_true rfl, Nat.le_of_ble_eq_true rfl⟩
theorem inLinkM82_00 : Statement .inLinkM82_00 := fun _ => ⟨Nat.le_of_ble_eq_true rfl, Nat.le_of_ble_eq_true rfl⟩
theorem outLinkM82_00 (v : Byte) : Statement (.outLinkM82_00 v) := fun _ => ⟨Nat.le_of_ble_eq_true rfl, Nat.le_of_ble_eq_true rfl⟩
theorem inKeypadM82_01 : Statement .inKeypadM82_01 := fun _ => ⟨Nat.le_of_ble_eq_true rfl, Nat.le_of_ble_eq_true rfl⟩
theorem outKeypadM82_01 (v : Byte) : Statement (.outKeypadM82_01 v) := fun _ => ⟨Nat.le_of_ble_eq_true rfl, Nat.le_of_ble_eq_true rfl⟩
theorem inPageM82_02 : Statement .inPageM82_02 := fun _ => ⟨Nat.le_of_ble_eq_true rfl, Nat.le_of_ble_eq_true rfl⟩
theorem outPageM82_02 (v : Byte) : Statement (.outPageM82_02 v) := fun _ => ⟨Nat.le_of_ble_eq_true rfl, Nat.le_of_ble_eq_true rfl⟩
theorem inStatusM82_03 : Statement .inStatusM82_03 := fun _ => ⟨Nat.le_of_ble_eq_true rfl, Nat.le_of_ble_eq_true rfl⟩
theorem outControlM82_03 (v : Byte) : Statement (.outControlM82_03 v) := fun _ => ⟨Nat.le_of_ble_eq_true rfl, Nat.le_of_ble_eq_true rfl⟩
theorem inPlainM82_04 : Statement .inPlainM82_04 := fun _ => ⟨Nat.le_of_ble_eq_true rfl, Nat.le_of_ble_eq_true rfl⟩
theorem outPlainM82_04 (v : Byte) : Statement (.outPlainM82_04 v) := fun _ => ⟨Nat.le_of_ble_eq_true rfl, Nat.le_of_ble_eq_true rfl⟩
theorem inPlainM82_05 : Statement .inPlainM82_05 := fun _ => ⟨Nat.le_of_ble_eq_true rfl, Nat.le_of_ble_eq_true rfl⟩
theorem outPlainM82_05 (v : Byte) : Statement (.outPlainM82_05 v) := fun _ => ⟨Nat.le_of_ble_eq_true rfl, Nat.le_of_ble_eq_true rfl⟩
theorem inPlainM82_06 : Statement .inPlainM82_06 := fun _ => ⟨Nat.le_of_ble_eq_true rfl, Nat.le_of_ble_eq_true rfl⟩
theorem outPlainM82_06 (v : Byte) : Statement (.outPlainM82_06 v) := fun _ => ⟨Nat.le_of_ble_eq_true rfl, Nat.le_of_ble_eq_true rfl⟩
theorem inPlainM82_07 : Statement .inPlainM82_07 := fun _ => ⟨Nat.le_of_ble_eq_true rfl, Nat.le_of_ble_eq_true rfl⟩
theorem outPlainM82_07 (v : Byte) : Statement (.outPlainM82_07 v) := fun _ => ⟨Nat.le_of_ble_eq_true rfl, Nat.le_of_ble_eq_true rfl⟩
theorem inLcdstatM82_10 : Statement .inLcdstatM82_10 := fun _ => ⟨Nat.le_of_ble_eq_true rfl, Nat.le_of_ble_eq_true rfl⟩
theorem outLcdcmdM82_10 (v : Byte) : Statement (.outLcdcmdM82_10 v) := fun _ => ⟨Nat.le_of_ble_eq_true rfl, Nat.le_of_ble_eq_true rfl⟩
theorem inLcddataM82_11 : Statement .inLcddataM82_11 := fun _ => ⟨Nat.le_of_ble_eq_true rfl, Nat.le_of_ble_eq_true rfl⟩
theorem outLcddataM82_11 (v : Byte) : Statement (.outLcddataM82_11 v) := fun _ => ⟨Nat.le_of_ble_eq_true rfl, Nat.le_of_ble_eq_true rfl⟩
theorem inLinkM83_00 : Statement .inLinkM83_00 := fun _ => ⟨Nat.le_of_ble_eq_true rfl, Nat.le_of_ble_eq_true rfl⟩
theorem outLinkM83_00 (v : Byte) : Statement (.outLinkM83_00 v) := fun _ => ⟨Nat.le_of_ble_eq_true rfl, Nat.le_of_ble_eq_true rfl⟩
theorem inKeypadM83_01 : Statement .inKeypadM83_01 := fun _ => ⟨Nat.le_of_ble_eq_true rfl, Nat.le_of_ble_eq_true rfl⟩
theorem outKeypadM83_01 (v : Byte) : Statement (.outKeypadM83_01 v) := fun _ => ⟨Nat.le_of_ble_eq_true rfl, Nat.le_of_ble_eq_true rfl⟩
theorem inPageM83_02 : Statement .inPageM83_02 := fun _ => ⟨Nat.le_of_ble_eq_true rfl, Nat.le_of_ble_eq_true rfl⟩
theorem outPageM83_02 (v : Byte) : Statement (.outPageM83_02 v) := fun _ => ⟨Nat.le_of_ble_eq_true rfl, Nat.le_of_ble_eq_true rfl⟩
theorem inStatusM83_03 : Statement .inStatusM83_03 := fun _ => ⟨Nat.le_of_ble_eq_true rfl, Nat.le_of_ble_eq_true rfl⟩
theorem outControlM83_03 (v : Byte) : Statement (.outControlM83_03 v) := fun _ => ⟨Nat.le_of_ble_eq_true rfl, Nat.le_of_ble_eq_true rfl⟩
theorem inPageM83_04 : Statement .inPageM83_04 := fun _ => ⟨Nat.le_of_ble_eq_true rfl, Nat.le_of_ble_eq_true rfl⟩
theorem outMapselM83_04 (v : Byte) : Statement (.outMapselM83_04 v) := fun _ => ⟨Nat.le_of_ble_eq_true rfl, Nat.le_of_ble_eq_true rfl⟩
theorem inPlainM83_05 : Statement .inPlainM83_05 := fun _ => ⟨Nat.le_of_ble_eq_true rfl, Nat.le_of_ble_eq_true rfl⟩
theorem outPlainM83_05 (v : Byte) : Statement (.outPlainM83_05 v) := fun _ => ⟨Nat.le_of_ble_eq_true rfl, Nat.le_of_ble_eq_true rfl⟩
theorem inPlainM83_06 : Statement .inPlainM83_06 := fun _ => ⟨Nat.le_of_ble_eq_true rfl, Nat.le_of_ble_eq_true rfl⟩
theorem outPlainM83_06 (v : Byte) : Statement (.outPlainM83_06 v) := fun _ => ⟨Nat.le_of_ble_eq_true rfl, Nat.le_of_ble_eq_true rfl⟩
theorem inPlainM83_07 : Statement .inPlainM83_07 := fun _ => ⟨Nat.le_of_ble_eq_true rfl, Nat.le_of_ble_eq_true rfl⟩
theorem outPlainM83_07 (v : Byte) : Statement (.outPlainM83_07 v) := fun _ => ⟨Nat.le_of_ble_eq_true rfl, Nat.le_of_ble_eq_true rfl⟩
theorem inLcdstatM83_10 : Statement .inLcdstatM83_10 := fun _ => ⟨Nat.le_of_ble_eq_true rfl, Nat.le_of_ble_eq_true rfl⟩
theorem outLcdcmdM83_10 (v : Byte) : Statement (.outLcdcmdM83_10 v) := fun _ => ⟨Nat.le_of_ble_eq_true rfl, Nat.le_of_ble_eq_true rfl⟩
theorem inLcddataM83_11 : Statement .inLcddataM83_11 := fun _ => ⟨Nat.le_of_ble_eq_true rfl, Nat.le_of_ble_eq_true rfl⟩
theorem outLcddataM83_11 (v : Byte) : Statement (.outLcddataM83_11 v) := fun _ => ⟨Nat.le_of_ble_eq_true rfl, Nat.le_of_ble_eq_true rfl⟩
theorem inLinkM83P_00 : Statement .inLinkM83P_00 := fun _ => ⟨Nat.le_of_ble_eq_true rfl, Nat.le_of_ble_eq_true rfl⟩
theorem outLinkM83P_00 (v : Byte) : Statement (.outLinkM83P_00 v) := fun _ => ⟨Nat.le_of_ble_eq_true rfl, Nat.le_of_ble_eq_true rfl⟩
theorem inKeypadM83P_01 : Statement .inKeypadM83P_01 := fun _ => ⟨Nat.le_of_ble_eq_true rfl, Nat.le_of_ble_eq_true rfl⟩
theorem outKeypadM83P_01 (v : Byte) : Statement (.outKeypadM83P_01 v) := fun _ => ⟨Nat.le_of_ble_eq_true rfl, Nat.le_of_ble_eq_true rfl⟩
theorem inPlainM83P_02 : Statement .inPlainM83P_02 := fun _ => ⟨Nat.le_of_ble_eq_true rfl, Nat.le_of_ble_eq_true rfl⟩
theorem outPlainM83P_02 (v : Byte) : Statement (.outPlainM83P_02 v) := fun _ => ⟨Nat.le_of_ble_eq_true rfl, Nat.le_of_ble_eq_true rfl⟩
theorem inControlM83P_03 : Statement .inControlM83P_03 := fun _ => ⟨Nat.le_of_ble_eq_true rfl, Nat.le_of_ble_eq_true rfl⟩
theorem outControlM83P_03 (v : Byte) : Statement (.outControlM83P_03 v) := fun _ => ⟨Nat.le_of_ble_eq_true rfl, Nat.le_of_ble_eq_true rfl⟩
theorem inStatusM83P_04 : Statement .inStatusM83P_04 := fun _ => ⟨Nat.le_of_ble_eq_true rfl, Nat.le_of_ble_eq_true rfl⟩
theorem outMapselM83P_04 (v : Byte) : Statement (.outMapselM83P_04 v) := fun _ => ⟨Nat.le_of_ble_eq_true rfl, Nat.le_of_ble_eq_true rfl⟩
theorem inPlainM83P_05 : Statement .inPlainM83P_05 := fun _ => ⟨Nat.le_of_ble_eq_true rfl, Nat.le_of_ble_eq_true rfl⟩
theorem outPlainM83P_05 (v : Byte) : Statement (.outPlainM83P_05 v) := fun _ => ⟨Nat.le_of_ble_eq_true rfl, Nat.le_of_ble_eq_true rfl⟩
theorem inPageM83P_06 : Statement .inPageM83P_06 := fun _ => ⟨Nat.le_of_ble_eq_true rfl, Nat.le_of_ble_eq_true rfl⟩
theorem outPageM83P_06 (v : Byte) : Statement (.outPageM83P_06 v) := fun _ => ⟨Nat.le_of_ble_eq_true rfl, Nat.le_of_ble_eq_true rfl⟩
theorem inPageM83P_07 : Statement .inPageM83P_07 := fun _ => ⟨Nat.le_of_ble_eq_true rfl, Nat.le_of_ble_eq_true rfl⟩
theorem outPageM83P_07 (v : Byte) : Statement (.outPageM83P_07 v) := fun _ => ⟨Nat.le_of_ble_eq_true rfl, Nat.le_of_ble_eq_true rfl⟩
theorem inLcdstatM83P_10 : Statement .inLcdstatM83P_10 := fun _ => ⟨Nat.le_of_ble_eq_true rfl, Nat.le_of_ble_eq_true rfl⟩
theorem outLcdcmdM83P_10 (v : Byte) : Statement (.outLcdcmdM83P_10 v) := fun _ => ⟨Nat.le_of_ble_eq_true rfl, Nat.le_of_ble_eq_true rfl⟩
theorem inLcddataM83P_11 : Statement .inLcddataM83P_11 := fun _ => ⟨Nat.le_of_ble_eq_true rfl, Nat.le_of_ble_eq_true rfl⟩
theorem outLcddataM83P_11 (v : Byte) : Statement (.outLcddataM83P_11 v) := fun _ => ⟨Nat.le_of_ble_eq_true rfl, Nat.le_of_ble_eq_true rfl⟩
theorem inLinkM83SE_00 : Statement .inLinkM83SE_00 := fun _ => ⟨Nat.le_of_ble_eq_true rfl, Nat.le_of_ble_eq_true rfl⟩
theorem outLinkM83SE_00 (v : Byte) : Statement (.outLinkM83SE_00 v) := fun _ => ⟨Nat.le_of_ble_eq_true rfl, Nat.le_of_ble_eq_true rfl⟩
theorem inKeypadM83SE_01 : Statement .inKeypadM83SE_01 := fun _ => ⟨Nat.le_of_ble_eq_true rfl, Nat.le_of_ble_eq_true rfl⟩
theorem outKeypadM83SE_01 (v : Byte) : Statement (.outKeypadM83SE_01 v) := fun _ => ⟨Nat.le_of_ble_eq_true rfl, Nat.le_of_ble_eq_true rfl⟩
theorem inPlainM83SE_02 : Statement .inPlainM83SE_02 := fun _ => ⟨Nat.le_of_ble_eq_true rfl, Nat.le_of_ble_eq_true rfl⟩
theorem outPlainM83SE_02 (v : Byte) : Statement (.outPlainM83SE_02 v) := fun _ => ⟨Nat.le_of_ble_eq_true rfl, Nat.le_of_ble_eq_true rfl⟩
theorem inControlM83SE_03 : Statement .inControlM83SE_03 := fun _ => ⟨Nat.le_of_ble_eq_true rfl, Nat.le_of_ble_eq_true rfl⟩
theorem outControlM83SE_03 (v : Byte) : Statement (.outControlM83SE_03 v) := fun _ => ⟨Nat.le_of_ble_eq_true rfl, Nat.le_of_ble_eq_true rfl⟩
theorem inStatusM83SE_04 : Statement .inStatusM83SE_04 := fun _ => ⟨Nat.le_of_ble_eq_true rfl, Nat.le_of_ble_eq_true rfl⟩
theorem outMapselM83SE_04 (v : Byte) : Statement (.outMapselM83SE_04 v) := fun _ => ⟨Nat.le_of_ble_eq_true rfl, Nat.le_of_ble_eq_true rfl⟩
theorem inPageM83SE_05 : Statement .inPageM83SE_05 := fun _ => ⟨Nat.le_of_ble_eq_true rfl, Nat.le_of_ble_eq_true rfl⟩
theorem outPageM83SE_05 (v : Byte) : Statement (.outPageM83SE_05 v) := fun _ => ⟨Nat.le_of_ble_eq_true rfl, Nat.le_of_ble_eq_true rfl⟩
theorem inPageM83SE_06 : Statement .inPageM83SE_06 := fun _ => ⟨Nat.le_of_ble_eq_true rfl, Nat.le_of_ble_eq_true rfl⟩
theorem outPageM83SE_06 (v : Byte) : Statement (.outPageM83SE_06 v) := fun _ => ⟨Nat.le_of_ble_eq_true rfl, Nat.le_of_ble_eq_true rfl⟩
theorem inPageM83SE_07 : Statement .inPageM83SE_07 := fun _ => ⟨Nat.le_of_ble_eq_true rfl, Nat.le_of_ble_eq_true rfl⟩
theorem outPageM83SE_07 (v : Byte) : Statement (.outPageM83SE_07 v) := fun _ => ⟨Nat.le_of_ble_eq_true rfl, Nat.le_of_ble_eq_true rfl⟩
theorem inLcdstatM83SE_10 : Statement .inLcdstatM83SE_10 := fun _ => ⟨Nat.le_of_ble_eq_true rfl, Nat.le_of_ble_eq_true rfl⟩
theorem outLcdcmdM83SE_10 (v : Byte) : Statement (.outLcdcmdM83SE_10 v) := fun _ => ⟨Nat.le_of_ble_eq_true rfl, Nat.le_of_ble_eq_true rfl⟩
theorem inLcddataM83SE_11 : Statement .inLcddataM83SE_11 := fun _ => ⟨Nat.le_of_ble_eq_true rfl, Nat.le_of_ble_eq_true rfl⟩
theorem outLcddataM83SE_11 (v : Byte) : Statement (.outLcddataM83SE_11 v) := fun _ => ⟨Nat.le_of_ble_eq_true rfl, Nat.le_of_ble_eq_true rfl⟩
theorem inLinkM84P_00 : Statement .inLinkM84P_00 := fun _ => ⟨Nat.le_of_ble_eq_true rfl, Nat.le_of_ble_eq_true rfl⟩
theorem outLinkM84P_00 (v : Byte) : Statement (.outLinkM84P_00 v) := fun _ => ⟨Nat.le_of_ble_eq_true rfl, Nat.le_of_ble_eq_true rfl⟩
theorem inKeypadM84P_01 : Statement .inKeypadM84P_01 := fun _ => ⟨Nat.le_of_ble_eq_true rfl, Nat.le_of_ble_eq_true rfl⟩
theorem outKeypadM84P_01 (v : Byte) : Statement (.outKeypadM84P_01 v) := fun _ => ⟨Nat.le_of_ble_eq_true rfl, Nat.le_of_ble_eq_true rfl⟩
theorem inPlainM84P_02 : Statement .inPlainM84P_02 := fun _ => ⟨Nat.le_of_ble_eq_true rfl, Nat.le_of_ble_eq_true rfl⟩
theorem outPlainM84P_02 (v : Byte) : Statement (.outPlainM84P_02 v) := fun _ => ⟨Nat.le_of_ble_eq_true rfl, Nat.le_of_ble_eq_true rfl⟩
theorem inControlM84P_03 : Statement .inControlM84P_03 := fun _ => ⟨Nat.le_of_ble_eq_true rfl, Nat.le_of_ble_eq_true rfl⟩
theorem outControlM84P_03 (v : Byte) : Statement (.outControlM84P_03 v) := fun _ => ⟨Nat.le_of_ble_eq_true rfl, Nat.le_of_ble_eq_true rfl⟩
theorem inStatusM84P_04 : Statement .inStatusM84P_04 := fun _ => ⟨Nat.le_of_ble_eq_true rfl, Nat.le_of_ble_eq_true rfl⟩
theorem outMapselM84P_04 (v : Byte) : Statement (.outMapselM84P_04 v) := fun _ => ⟨Nat.le_of_ble_eq_true rfl, Nat.le_of_ble_eq_true rfl⟩
theorem inPageM84P_05 : Statement .inPageM84P_05 := fun _ => ⟨Nat.le_of_ble_eq_true rfl, Nat.le_of_ble_eq_true rfl⟩
theorem outPageM84P_05 (v : Byte) : Statement (.outPageM84P_05 v) := fun _ => ⟨Nat.le_of_ble_eq_true rfl, Nat.le_of_ble_eq_true rfl⟩
theorem inPageM84P_06 : Statement .inPageM84P_06 := fun _ => ⟨Nat.le_of_ble_eq_true rfl, Nat.le_of_ble_eq_true rfl⟩
theorem outPageM84P_06 (v : Byte) : Statement (.outPageM84P_06 v) := fun _ => ⟨Nat.le_of_ble_eq_true rfl, Nat.le_of_ble_eq_true rfl⟩
theorem inPageM84P_07 : Statement .inPageM84P_07 := fun _ => ⟨Nat.le_of_ble_eq_true rfl, Nat.le_of_ble_eq_true rfl⟩
theorem outPageM84P_07 (v : Byte) : Statement (.outPageM84P_07 v) := fun _ => ⟨Nat.le_of_ble_eq_true rfl, Nat.le_of_ble_eq_true rfl⟩
theorem inLcdstatM84P_10 : Statement .inLcdstatM84P_10 := fun _ => ⟨Nat.le_of_ble_eq_true rfl, Nat.le_of_ble_eq_true rfl⟩
theorem outLcdcmdM84P_10 (v : Byte) : Statement (.outLcdcmdM84P_10 v) := fun _ => ⟨Nat.le_of_ble_eq_true rfl, Nat.le_of_ble_eq_true rfl⟩
theorem inLcddataM84P_11 : Statement .inLcddataM84P_11 := fun _ => ⟨Nat.le_of_ble_eq_true rfl, Nat.le_of_ble_eq_true rfl⟩
theorem outLcddataM84P_11 (v : Byte) : Statement (.outLcddataM84P_11 v) := fun _ => ⟨Nat.le_of_ble_eq_true rfl, Nat.le_of_ble_eq_true rfl⟩
theorem inLinkM84SE_00 : Statement .inLinkM84SE_00 := fun _ => ⟨Nat.le_of_ble_eq_true rfl, Nat.le_of_ble_eq_true rfl⟩
theorem outLinkM84SE_00 (v : Byte) : Statement (.outLinkM84SE_00 v) := fun _ => ⟨Nat.le_of_ble_eq_true rfl, Nat.le_of_ble_eq_true rfl⟩
theorem inKeypadM84SE_01 : Statement .inKeypadM84SE_01 := fun _ => ⟨Nat.le_of_ble_eq_true rfl, Nat.le_of_ble_eq_true rfl⟩
theorem outKeypadM84SE_01 (v : Byte) : Statement (.outKeypadM84SE_01 v) := fun _ => ⟨Nat.le_of_ble_eq_true rfl, Nat.le_of_ble_eq_true rfl⟩
theorem inPlainM84SE_02 : Statement .inPlainM84SE_02 := fun _ => ⟨Nat.le_of_ble_eq_true rfl, Nat.le_of_ble_eq_true rfl⟩
theorem outPlainM84SE_02 (v : Byte) : Statement (.outPlainM84SE_02 v) := fun _ => ⟨Nat.le_of_ble_eq_true rfl, Nat.le_of_ble_eq_true rfl⟩
theorem inControlM84SE_03 : Statement .inControlM84SE_03 := fun _ => ⟨Nat.le_of_ble_eq_true rfl, Nat.le_of_ble_eq_true rfl⟩
theorem outControlM84SE_03 (v : Byte) : Statement (.outControlM84SE_03 v) := fun _ => ⟨Nat.le_of_ble_eq_true rfl, Nat.le_of_ble_eq_true rfl⟩
theorem inStatusM84SE_04 : Statement .inStatusM84SE_04 := fun _ => ⟨Nat.le_of_ble_eq_true rfl, Nat.le_of_ble_eq_true rfl⟩
theorem outMapselM84SE_04 (v : Byte) : Statement (.outMapselM84SE_04 v) := fun _ => ⟨Nat.le_of_ble_eq_true rfl, Nat.le_of_ble_eq_true rfl⟩
theorem inPageM84SE_05 : Statement .inPageM84SE_05 := fun _ => ⟨Nat.le_of_ble_eq_true rfl, Nat.le_of_ble_eq_true rfl⟩
theorem outPageM84SE_05 (v : Byte) : Statement (.outPageM84SE_05 v) := fun _ => ⟨Nat.le_of_ble_eq_true rfl, Nat.le_of_ble_eq_true rfl⟩
theorem inPageM84SE_06 : Statement .inPageM84SE_06 := fun _ => ⟨Nat.le_of_ble_eq_true rfl, Nat.le_of_ble_eq_true rfl⟩
theorem outPageM84SE_06 (v : Byte) : Statement (.outPageM84SE_06 v) := fun _ => ⟨Nat.le_of_ble_eq_true rfl, Nat.le_of_ble_eq_true rfl⟩
theorem inPageM84SE_07 : Statement .inPageM84SE_07 := fun _ => ⟨Nat.le_of_ble_eq_true rfl, Nat.le_of_ble_eq_true rfl⟩
theorem outPageM84SE_07 (v : Byte) : Statement (.outPageM84SE_07 v) := fun _ => ⟨Nat.le_of_ble_eq_true rfl, Nat.le_of_ble_eq_true rfl⟩
theorem inLcdstatM84SE_10 : Statement .inLcdstatM84SE_10 := fun _ => ⟨Nat.le_of_ble_eq_true rfl, Nat.le_of_ble_eq_true rfl⟩
theorem outLcdcmdM84SE_10 (v : Byte) : Statement (.outLcdcmdM84SE_10 v) := fun _ => ⟨Nat.le_of_ble_eq_true rfl, Nat.le_of_ble_eq_true rfl⟩
theorem inLcddataM84SE_11 : Statement .inLcddataM84SE_11 := fun _ => ⟨Nat.le_of_ble_eq_true rfl, Nat.le_of_ble_eq_true rfl⟩
theorem outLcddataM84SE_11 (v : Byte) : Statement (.outLcddataM84SE_11 v) := fun _ => ⟨Nat.le_of_ble_eq_true rfl, Nat.le_of_ble_eq_true rfl⟩
theorem inUnmapped (tag : BitVec 4) (p : Byte) : Statement (.inUnmapped tag p) := fun _ => ⟨Nat.le_of_ble_eq_true rfl, Nat.le_of_ble_eq_true rfl⟩
theorem outUnmapped (tag : BitVec 4) (p : Byte) (v : Byte) : Statement (.outUnmapped tag p v) := fun _ => ⟨Nat.le_of_ble_eq_true rfl, Nat.le_of_ble_eq_true rfl⟩
theorem memrd (a : Addr) : Statement (.memrd a) := fun _ => ⟨Nat.le_of_ble_eq_true rfl, Nat.le_of_ble_eq_true rfl⟩
theorem memwr (a : Addr) (v : Byte) : Statement (.memwr a v) := fun _ => ⟨Nat.le_of_ble_eq_true rfl, Nat.le_of_ble_eq_true rfl⟩
theorem tick (h : Bool) : Statement (.tick h) := fun _ => ⟨Nat.le_of_ble_eq_true rfl, Nat.le_of_ble_eq_true rfl⟩
theorem reset (m : Byte) : Statement (.reset m) := fun _ => ⟨Nat.le_of_ble_eq_true rfl, Nat.le_of_ble_eq_true rfl⟩
theorem hostexit : Statement .hostexit := fun _ => ⟨Nat.le_of_ble_eq_true rfl, Nat.le_of_ble_eq_true rfl⟩
theorem hostkeys (k : Vector Byte 8) (o : Bool) : Statement (.hostkeys k o) := by
  intro _
  have h : (encode (.hostkeys k o)).length = 9 := by
    show (k.toList ++ [bitByte o]).length = 9
    simp
  rw [h]
  exact ⟨Nat.le_refl 9, Nat.le_refl 9⟩

end Sys2Proof.Laws.EncodedSize
end

