-- ==== Sys2Proof/Laws/Ports.lean ====
section
/-! SUPPORT. Ports.lean: everything a port transaction, a memory access and a RESET can do, said once for each. -/

namespace Sys2Proof.Machine

/-- The register-file indices that a port write of a model can reach (10_state.md R13, R19, R21). -/
def reachable (m : Model) (i : Fin 32) : Bool :=
  (decide (i.val ≤ 7) && (!m.cfg.hasPagec || i != 5)) || (i == 10 && m.cfg.hasPagec)

/-- A reachable index that is no banking register of the model. -/
def reachablePlain (m : Model) (i : Fin 32) : Bool := reachable m i && !(bankingRegisters m.cfg.family).contains i

/-- A reachable index is 0 to 7, not 5 with `HAS_PAGEC`, or 10 with it. -/
theorem reachable_iff (m : Model) (i : Fin 32) : reachable m i = true ↔
    (i.val ≤ 7 ∧ (m.cfg.hasPagec = true → i.val ≠ 5)) ∨ (i.val = 10 ∧ m.cfg.hasPagec = true) := by
  revert i; cases m <;> decide

/-- What the class of a port address says of the index it writes. -/
theorem portClass_index : ∀ (m : Model) (p : Byte),
    (match portClass m p with
      | .plain i => reachablePlain m i
      | .keypad => reachablePlain m 1
      | .statctl => reachablePlain m 3
      | .control => reachablePlain m 3
      | .mapstat => reachable m 4
      | .contrast => reachablePlain m 2
      | .link i => reachable m i && (m == .m83 || reachablePlain m i)
      | .page i => reachable m i
      | .lcdcmd => m.cfg.hasLcdc && p == 0x10
      | .lcddata => m.cfg.hasLcdc && p == 0x11
      | .unmapped => true) = true := by
  intro m; cases m <;> decide +kernel

/-- An IN returns a byte and changes nothing else, or is the data read of an LCD controller. -/
theorem portRead_spec (p : Byte) (s : State) :
    (∃ b, portRead p s = s.answer (some (.byte b)) none) ∨
    (p = 0x11 ∧ s.model.cfg.hasLcdc = true ∧ portRead p s = lcdRead s) := by
  have hf := portClass_index s.model p
  unfold portRead
  cases h : portClass s.model p
  case lcddata =>
    simp only [h, Bool.and_eq_true, beq_iff_eq] at hf
    exact .inr ⟨hf.2, hf.1, rfl⟩
  all_goals exact .inl ⟨_, rfl⟩

/-- An OUT stores a byte that no window depends on, or stores a byte and computes the windows anew, or is a command to
or a data write of an LCD controller, or does nothing. -/
theorem portWrite_spec (p v : Byte) (s : State) :
    (∃ i e, reachable s.model i = true ∧
      mapPages s.model.cfg (s.ports.set i v) = mapPages s.model.cfg s.ports ∧
      portWrite p v s = (s.setPort i v).answer none e) ∨
    (∃ i, reachable s.model i = true ∧ portWrite p v s = (s.setPort i v).remap.answer none none) ∨
    (p = 0x10 ∧ s.model.cfg.hasLcdc = true ∧ portWrite p v s = lcdCommand v s) ∨
    (p = 0x11 ∧ s.model.cfg.hasLcdc = true ∧ portWrite p v s = lcdWrite v s) ∨
    portWrite p v s = s.answer none none := by
  have hf := portClass_index s.model p
  have plain : ∀ i e, reachablePlain s.model i = true → portWrite p v s = (s.setPort i v).answer none e →
      ∃ i e, reachable s.model i = true ∧ mapPages s.model.cfg (s.ports.set i v) = mapPages s.model.cfg s.ports ∧
        portWrite p v s = (s.setPort i v).answer none e := by
    intro i e h he
    simp only [reachablePlain, Bool.and_eq_true, Bool.not_eq_true', List.contains_eq_mem,
      decide_eq_false_iff_not] at h
    exact ⟨i, e, h.1, mapPages_set _ _ _ _ h.2, he⟩
  unfold portWrite at *
  cases h : portClass s.model p <;> simp only [h] at hf plain ⊢
  case plain i => exact .inl (plain _ _ hf rfl)
  case keypad => exact .inl (plain _ _ hf rfl)
  case statctl => exact .inl (plain _ _ hf rfl)
  case control => exact .inl (plain _ _ hf rfl)
  case contrast => exact .inl (plain _ _ hf rfl)
  case mapstat => exact .inr (.inl ⟨_, hf, rfl⟩)
  case page i => exact .inr (.inl ⟨_, hf, rfl⟩)
  case link i =>
    simp only [Bool.and_eq_true, Bool.or_eq_true, beq_iff_eq] at hf
    by_cases hm : s.model = .m83
    · exact .inr (.inl ⟨i, hf.1, by unfold writeLink; rw [if_pos hm]⟩)
    · exact .inl (plain i none (hf.2.resolve_left hm) (by unfold writeLink; rw [if_neg hm]))
  case lcdcmd =>
    simp only [Bool.and_eq_true, beq_iff_eq] at hf
    exact .inr (.inr (.inl ⟨hf.2, hf.1, rfl⟩))
  case lcddata =>
    simp only [Bool.and_eq_true, beq_iff_eq] at hf
    exact .inr (.inr (.inr (.inl ⟨hf.2, hf.1, rfl⟩)))
  case unmapped => exact .inr (.inr (.inr (.inr rfl)))

/-- A full-key IN row whose class behaviour is the dispatch of its address on its own model is that dispatch everywhere. -/
theorem inOn_eq (m : Model) (p : Byte) (read : State → State) (s : State) (h : s.model = m → read s = portRead p s) :
    inOn m p read s = .next (portRead p s) := by
  unfold inOn; split <;> [rw [h ‹_›]; rfl]

/-- The same for a full-key OUT row. -/
theorem outOn_eq (m : Model) (p v : Byte) (write : Byte → State → State) (s : State)
    (h : s.model = m → write v s = portWrite p v s) : outOn m p v write s = .next (portWrite p v s) := by
  unfold outOn; split <;> [rw [h ‹_›]; rfl]

/-- The default IN row is the dispatch of its address. -/
theorem execInUnmapped_eq (tag : BitVec 4) (p : Byte) (s : State) :
    execInUnmapped tag p s = .next (portRead p s) := by
  unfold execInUnmapped portRead; split
  · rename_i h; rw [h.2]
  · rfl

/-- The default OUT row is the dispatch of its address. -/
theorem execOutUnmapped_eq (tag : BitVec 4) (p v : Byte) (s : State) :
    execOutUnmapped tag p v s = .next (portWrite p v s) := by
  unfold execOutUnmapped portWrite; split
  · rename_i h; rw [h.2]
  · rfl

/-- If MEMRD answers a next state, only the result differs. -/
theorem execMemrd_next {a : Addr} {s t : State} (h : execMemrd a s = .next t) :
    t = s.answer (some (.byte (s.peek a))) none := by
  unfold execMemrd at h; split at h <;> cases h; rfl

/-- If MEMWR answers a next state, it wrote the one byte of RAM that the address shows, or nothing. -/
theorem execMemwr_next {a : Addr} {v : Byte} {s t : State} (h : execMemwr a v s = .next t) :
    ((s.pageOf a).arena = .rom ∧ t = s.answer none none) ∨
    ((s.pageOf a).arena = .ram ∧ s.inArena a = true ∧ t = (s.writeRam (s.arenaIndex a) v).answer none none) := by
  unfold execMemwr at h; split at h
  · cases h; exact .inl ⟨‹_›, rfl⟩
  · split at h <;> cases h
    exact .inr ⟨‹_›, ‹_›, rfl⟩

/-- RESET always answers: the reset of the block to an accepted model, or the block as it was. -/
theorem execReset_next (k : Byte) (s : State) :
    (∃ m, Model.ofIndex k.toNat = some m ∧ s.imageFits m = true ∧
      execReset k s = .next ((s.resetTo m).answer none none)) ∨
    execReset k s = .next (s.answer (some .refused) none) := by
  unfold execReset
  cases h : Model.ofIndex k.toNat with
  | none => exact .inr rfl
  | some m =>
    by_cases hf : s.imageFits m = true
    · exact .inl ⟨m, rfl, hf, by simp [hf]⟩
    · exact .inr (by simp [hf])

end Sys2Proof.Machine
end

