-- ==== Sys2Proof/Laws/State.lean ====
section
/-! SUPPORT. State.lean: one lemma per field per named update of State, so that no proof unfolds a record update. -/

namespace Sys2Proof.Machine

variable (s : State)

@[simp] theorem State.setPort_model (i : Fin 32) (v : Byte) : (s.setPort i v).model = s.model := rfl
@[simp] theorem State.setPort_rom (i : Fin 32) (v : Byte) : (s.setPort i v).rom = s.rom := rfl
@[simp] theorem State.setPort_ram (i : Fin 32) (v : Byte) : (s.setPort i v).ram = s.ram := rfl
@[simp] theorem State.setPort_page (i : Fin 32) (v : Byte) : (s.setPort i v).page = s.page := rfl
@[simp] theorem State.setPort_ports (i : Fin 32) (v : Byte) : (s.setPort i v).ports = s.ports.set i v := rfl
@[simp] theorem State.setPort_lcd (i : Fin 32) (v : Byte) : (s.setPort i v).lcd = s.lcd := rfl
@[simp] theorem State.setPort_keyRow (i : Fin 32) (v : Byte) : (s.setPort i v).keyRow = s.keyRow := rfl
@[simp] theorem State.setPort_onKey (i : Fin 32) (v : Byte) : (s.setPort i v).onKey = s.onKey := rfl
@[simp] theorem State.setPort_startupOn (i : Fin 32) (v : Byte) : (s.setPort i v).startupOn = s.startupOn := rfl
@[simp] theorem State.setPort_exitNow (i : Fin 32) (v : Byte) : (s.setPort i v).exitNow = s.exitNow := rfl
@[simp] theorem State.setPort_uCount (i : Fin 32) (v : Byte) : (s.setPort i v).uCount = s.uCount := rfl
@[simp] theorem State.setPort_uperiod (i : Fin 32) (v : Byte) : (s.setPort i v).uperiod = s.uperiod := rfl
@[simp] theorem State.setPort_startupTicks (i : Fin 32) (v : Byte) : (s.setPort i v).startupTicks = s.startupTicks := rfl
@[simp] theorem State.setPort_linkIdle (i : Fin 32) (v : Byte) : (s.setPort i v).linkIdle = s.linkIdle := rfl
@[simp] theorem State.setPort_romImages (i : Fin 32) (v : Byte) : (s.setPort i v).romImages = s.romImages := rfl
@[simp] theorem State.setPort_pending (i : Fin 32) (v : Byte) : (s.setPort i v).pending = s.pending := rfl
@[simp] theorem State.setPort_result (i : Fin 32) (v : Byte) : (s.setPort i v).result = s.result := rfl
@[simp] theorem State.setPort_strobe (i : Fin 32) (v : Byte) : (s.setPort i v).strobe = s.strobe := rfl

@[simp] theorem State.remap_model : (s.remap).model = s.model := rfl
@[simp] theorem State.remap_rom : (s.remap).rom = s.rom := rfl
@[simp] theorem State.remap_ram : (s.remap).ram = s.ram := rfl
@[simp] theorem State.remap_page : (s.remap).page = mapPages s.model.cfg s.ports := rfl
@[simp] theorem State.remap_ports : (s.remap).ports = s.ports := rfl
@[simp] theorem State.remap_lcd : (s.remap).lcd = s.lcd := rfl
@[simp] theorem State.remap_keyRow : (s.remap).keyRow = s.keyRow := rfl
@[simp] theorem State.remap_onKey : (s.remap).onKey = s.onKey := rfl
@[simp] theorem State.remap_startupOn : (s.remap).startupOn = s.startupOn := rfl
@[simp] theorem State.remap_exitNow : (s.remap).exitNow = s.exitNow := rfl
@[simp] theorem State.remap_uCount : (s.remap).uCount = s.uCount := rfl
@[simp] theorem State.remap_uperiod : (s.remap).uperiod = s.uperiod := rfl
@[simp] theorem State.remap_startupTicks : (s.remap).startupTicks = s.startupTicks := rfl
@[simp] theorem State.remap_linkIdle : (s.remap).linkIdle = s.linkIdle := rfl
@[simp] theorem State.remap_romImages : (s.remap).romImages = s.romImages := rfl
@[simp] theorem State.remap_pending : (s.remap).pending = s.pending := rfl
@[simp] theorem State.remap_result : (s.remap).result = s.result := rfl
@[simp] theorem State.remap_strobe : (s.remap).strobe = s.strobe := rfl

@[simp] theorem State.setLcd_model (l : Lcd) : (s.setLcd l).model = s.model := rfl
@[simp] theorem State.setLcd_rom (l : Lcd) : (s.setLcd l).rom = s.rom := rfl
@[simp] theorem State.setLcd_ram (l : Lcd) : (s.setLcd l).ram = s.ram := rfl
@[simp] theorem State.setLcd_page (l : Lcd) : (s.setLcd l).page = s.page := rfl
@[simp] theorem State.setLcd_ports (l : Lcd) : (s.setLcd l).ports = s.ports := rfl
@[simp] theorem State.setLcd_lcd (l : Lcd) : (s.setLcd l).lcd = l := rfl
@[simp] theorem State.setLcd_keyRow (l : Lcd) : (s.setLcd l).keyRow = s.keyRow := rfl
@[simp] theorem State.setLcd_onKey (l : Lcd) : (s.setLcd l).onKey = s.onKey := rfl
@[simp] theorem State.setLcd_startupOn (l : Lcd) : (s.setLcd l).startupOn = s.startupOn := rfl
@[simp] theorem State.setLcd_exitNow (l : Lcd) : (s.setLcd l).exitNow = s.exitNow := rfl
@[simp] theorem State.setLcd_uCount (l : Lcd) : (s.setLcd l).uCount = s.uCount := rfl
@[simp] theorem State.setLcd_uperiod (l : Lcd) : (s.setLcd l).uperiod = s.uperiod := rfl
@[simp] theorem State.setLcd_startupTicks (l : Lcd) : (s.setLcd l).startupTicks = s.startupTicks := rfl
@[simp] theorem State.setLcd_linkIdle (l : Lcd) : (s.setLcd l).linkIdle = s.linkIdle := rfl
@[simp] theorem State.setLcd_romImages (l : Lcd) : (s.setLcd l).romImages = s.romImages := rfl
@[simp] theorem State.setLcd_pending (l : Lcd) : (s.setLcd l).pending = s.pending := rfl
@[simp] theorem State.setLcd_result (l : Lcd) : (s.setLcd l).result = s.result := rfl
@[simp] theorem State.setLcd_strobe (l : Lcd) : (s.setLcd l).strobe = s.strobe := rfl

@[simp] theorem State.writeRam_model (i : Nat) (v : Byte) : (s.writeRam i v).model = s.model := rfl
@[simp] theorem State.writeRam_rom (i : Nat) (v : Byte) : (s.writeRam i v).rom = s.rom := rfl
@[simp] theorem State.writeRam_ram (i : Nat) (v : Byte) : (s.writeRam i v).ram = Memory.write s.ram i v := rfl
@[simp] theorem State.writeRam_page (i : Nat) (v : Byte) : (s.writeRam i v).page = s.page := rfl
@[simp] theorem State.writeRam_ports (i : Nat) (v : Byte) : (s.writeRam i v).ports = s.ports := rfl
@[simp] theorem State.writeRam_lcd (i : Nat) (v : Byte) : (s.writeRam i v).lcd = s.lcd := rfl
@[simp] theorem State.writeRam_keyRow (i : Nat) (v : Byte) : (s.writeRam i v).keyRow = s.keyRow := rfl
@[simp] theorem State.writeRam_onKey (i : Nat) (v : Byte) : (s.writeRam i v).onKey = s.onKey := rfl
@[simp] theorem State.writeRam_startupOn (i : Nat) (v : Byte) : (s.writeRam i v).startupOn = s.startupOn := rfl
@[simp] theorem State.writeRam_exitNow (i : Nat) (v : Byte) : (s.writeRam i v).exitNow = s.exitNow := rfl
@[simp] theorem State.writeRam_uCount (i : Nat) (v : Byte) : (s.writeRam i v).uCount = s.uCount := rfl
@[simp] theorem State.writeRam_uperiod (i : Nat) (v : Byte) : (s.writeRam i v).uperiod = s.uperiod := rfl
@[simp] theorem State.writeRam_startupTicks (i : Nat) (v : Byte) : (s.writeRam i v).startupTicks = s.startupTicks := rfl
@[simp] theorem State.writeRam_linkIdle (i : Nat) (v : Byte) : (s.writeRam i v).linkIdle = s.linkIdle := rfl
@[simp] theorem State.writeRam_romImages (i : Nat) (v : Byte) : (s.writeRam i v).romImages = s.romImages := rfl
@[simp] theorem State.writeRam_pending (i : Nat) (v : Byte) : (s.writeRam i v).pending = s.pending := rfl
@[simp] theorem State.writeRam_result (i : Nat) (v : Byte) : (s.writeRam i v).result = s.result := rfl
@[simp] theorem State.writeRam_strobe (i : Nat) (v : Byte) : (s.writeRam i v).strobe = s.strobe := rfl

@[simp] theorem State.answer_model (r : Option Result) (e : Option Strobe) : (s.answer r e).model = s.model := rfl
@[simp] theorem State.answer_rom (r : Option Result) (e : Option Strobe) : (s.answer r e).rom = s.rom := rfl
@[simp] theorem State.answer_ram (r : Option Result) (e : Option Strobe) : (s.answer r e).ram = s.ram := rfl
@[simp] theorem State.answer_page (r : Option Result) (e : Option Strobe) : (s.answer r e).page = s.page := rfl
@[simp] theorem State.answer_ports (r : Option Result) (e : Option Strobe) : (s.answer r e).ports = s.ports := rfl
@[simp] theorem State.answer_lcd (r : Option Result) (e : Option Strobe) : (s.answer r e).lcd = s.lcd := rfl
@[simp] theorem State.answer_keyRow (r : Option Result) (e : Option Strobe) : (s.answer r e).keyRow = s.keyRow := rfl
@[simp] theorem State.answer_onKey (r : Option Result) (e : Option Strobe) : (s.answer r e).onKey = s.onKey := rfl
@[simp] theorem State.answer_startupOn (r : Option Result) (e : Option Strobe) : (s.answer r e).startupOn = s.startupOn := rfl
@[simp] theorem State.answer_exitNow (r : Option Result) (e : Option Strobe) : (s.answer r e).exitNow = s.exitNow := rfl
@[simp] theorem State.answer_uCount (r : Option Result) (e : Option Strobe) : (s.answer r e).uCount = s.uCount := rfl
@[simp] theorem State.answer_uperiod (r : Option Result) (e : Option Strobe) : (s.answer r e).uperiod = s.uperiod := rfl
@[simp] theorem State.answer_startupTicks (r : Option Result) (e : Option Strobe) : (s.answer r e).startupTicks = s.startupTicks := rfl
@[simp] theorem State.answer_linkIdle (r : Option Result) (e : Option Strobe) : (s.answer r e).linkIdle = s.linkIdle := rfl
@[simp] theorem State.answer_romImages (r : Option Result) (e : Option Strobe) : (s.answer r e).romImages = s.romImages := rfl
@[simp] theorem State.answer_pending (r : Option Result) (e : Option Strobe) : (s.answer r e).pending = s.pending := rfl
@[simp] theorem State.answer_result (r : Option Result) (e : Option Strobe) : (s.answer r e).result = r := rfl
@[simp] theorem State.answer_strobe (r : Option Result) (e : Option Strobe) : (s.answer r e).strobe = e := rfl

@[simp] theorem State.giveByte_model (v : Byte) : (s.giveByte v).model = s.model := rfl
@[simp] theorem State.giveByte_rom (v : Byte) : (s.giveByte v).rom = s.rom := rfl
@[simp] theorem State.giveByte_ram (v : Byte) : (s.giveByte v).ram = s.ram := rfl
@[simp] theorem State.giveByte_page (v : Byte) : (s.giveByte v).page = s.page := rfl
@[simp] theorem State.giveByte_ports (v : Byte) : (s.giveByte v).ports = s.ports := rfl
@[simp] theorem State.giveByte_lcd (v : Byte) : (s.giveByte v).lcd = s.lcd := rfl
@[simp] theorem State.giveByte_keyRow (v : Byte) : (s.giveByte v).keyRow = s.keyRow := rfl
@[simp] theorem State.giveByte_onKey (v : Byte) : (s.giveByte v).onKey = s.onKey := rfl
@[simp] theorem State.giveByte_startupOn (v : Byte) : (s.giveByte v).startupOn = s.startupOn := rfl
@[simp] theorem State.giveByte_exitNow (v : Byte) : (s.giveByte v).exitNow = s.exitNow := rfl
@[simp] theorem State.giveByte_uCount (v : Byte) : (s.giveByte v).uCount = s.uCount := rfl
@[simp] theorem State.giveByte_uperiod (v : Byte) : (s.giveByte v).uperiod = s.uperiod := rfl
@[simp] theorem State.giveByte_startupTicks (v : Byte) : (s.giveByte v).startupTicks = s.startupTicks := rfl
@[simp] theorem State.giveByte_linkIdle (v : Byte) : (s.giveByte v).linkIdle = s.linkIdle := rfl
@[simp] theorem State.giveByte_romImages (v : Byte) : (s.giveByte v).romImages = s.romImages := rfl
@[simp] theorem State.giveByte_pending (v : Byte) : (s.giveByte v).pending = s.pending := rfl
@[simp] theorem State.giveByte_result (v : Byte) : (s.giveByte v).result = some (.byte v) := rfl
@[simp] theorem State.giveByte_strobe (v : Byte) : (s.giveByte v).strobe = none := rfl

@[simp] theorem State.present_model (e : Pending) (rest : List Pending) : (s.present e rest).model = s.model := rfl
@[simp] theorem State.present_rom (e : Pending) (rest : List Pending) : (s.present e rest).rom = s.rom := rfl
@[simp] theorem State.present_ram (e : Pending) (rest : List Pending) : (s.present e rest).ram = s.ram := rfl
@[simp] theorem State.present_page (e : Pending) (rest : List Pending) : (s.present e rest).page = s.page := rfl
@[simp] theorem State.present_ports (e : Pending) (rest : List Pending) : (s.present e rest).ports = s.ports := rfl
@[simp] theorem State.present_lcd (e : Pending) (rest : List Pending) : (s.present e rest).lcd = s.lcd := rfl
@[simp] theorem State.present_keyRow (e : Pending) (rest : List Pending) : (s.present e rest).keyRow = s.keyRow := rfl
@[simp] theorem State.present_onKey (e : Pending) (rest : List Pending) : (s.present e rest).onKey = s.onKey := rfl
@[simp] theorem State.present_startupOn (e : Pending) (rest : List Pending) : (s.present e rest).startupOn = s.startupOn := rfl
@[simp] theorem State.present_exitNow (e : Pending) (rest : List Pending) : (s.present e rest).exitNow = s.exitNow := rfl
@[simp] theorem State.present_uCount (e : Pending) (rest : List Pending) : (s.present e rest).uCount = s.uCount := rfl
@[simp] theorem State.present_uperiod (e : Pending) (rest : List Pending) : (s.present e rest).uperiod = e.uperiod.getD s.uperiod := rfl
@[simp] theorem State.present_startupTicks (e : Pending) (rest : List Pending) : (s.present e rest).startupTicks = s.startupTicks := rfl
@[simp] theorem State.present_linkIdle (e : Pending) (rest : List Pending) : (s.present e rest).linkIdle = s.linkIdle := rfl
@[simp] theorem State.present_romImages (e : Pending) (rest : List Pending) : (s.present e rest).romImages = s.romImages := rfl
@[simp] theorem State.present_pending (e : Pending) (rest : List Pending) : (s.present e rest).pending = rest := rfl
@[simp] theorem State.present_result (e : Pending) (rest : List Pending) : (s.present e rest).result = s.result := rfl
@[simp] theorem State.present_strobe (e : Pending) (rest : List Pending) : (s.present e rest).strobe = s.strobe := rfl

@[simp] theorem State.enqueue_model (op : Request) : (s.enqueue op).model = s.model := rfl
@[simp] theorem State.enqueue_rom (op : Request) : (s.enqueue op).rom = s.rom := rfl
@[simp] theorem State.enqueue_ram (op : Request) : (s.enqueue op).ram = s.ram := rfl
@[simp] theorem State.enqueue_page (op : Request) : (s.enqueue op).page = s.page := rfl
@[simp] theorem State.enqueue_ports (op : Request) : (s.enqueue op).ports = s.ports := rfl
@[simp] theorem State.enqueue_lcd (op : Request) : (s.enqueue op).lcd = s.lcd := rfl
@[simp] theorem State.enqueue_keyRow (op : Request) : (s.enqueue op).keyRow = s.keyRow := rfl
@[simp] theorem State.enqueue_onKey (op : Request) : (s.enqueue op).onKey = s.onKey := rfl
@[simp] theorem State.enqueue_startupOn (op : Request) : (s.enqueue op).startupOn = s.startupOn := rfl
@[simp] theorem State.enqueue_exitNow (op : Request) : (s.enqueue op).exitNow = s.exitNow := rfl
@[simp] theorem State.enqueue_uCount (op : Request) : (s.enqueue op).uCount = s.uCount := rfl
@[simp] theorem State.enqueue_uperiod (op : Request) : (s.enqueue op).uperiod = s.uperiod := rfl
@[simp] theorem State.enqueue_startupTicks (op : Request) : (s.enqueue op).startupTicks = s.startupTicks := rfl
@[simp] theorem State.enqueue_linkIdle (op : Request) : (s.enqueue op).linkIdle = s.linkIdle := rfl
@[simp] theorem State.enqueue_romImages (op : Request) : (s.enqueue op).romImages = s.romImages := rfl
@[simp] theorem State.enqueue_pending (op : Request) : (s.enqueue op).pending = ⟨op, none⟩ :: s.pending := rfl
@[simp] theorem State.enqueue_result (op : Request) : (s.enqueue op).result = s.result := rfl
@[simp] theorem State.enqueue_strobe (op : Request) : (s.enqueue op).strobe = s.strobe := rfl

@[simp] theorem State.resetTo_model (m : Model) : (s.resetTo m).model = m := rfl
@[simp] theorem State.resetTo_rom (m : Model) : (s.resetTo m).rom = (s.imageOf m).bytes := rfl
@[simp] theorem State.resetTo_ram (m : Model) : (s.resetTo m).ram = [] := rfl
@[simp] theorem State.resetTo_page (m : Model) : (s.resetTo m).page = mapPages m.cfg (resetPorts s.linkIdle) := rfl
@[simp] theorem State.resetTo_ports (m : Model) : (s.resetTo m).ports = resetPorts s.linkIdle := rfl
@[simp] theorem State.resetTo_lcd (m : Model) : (s.resetTo m).lcd = Lcd.reset := rfl
@[simp] theorem State.resetTo_keyRow (m : Model) : (s.resetTo m).keyRow = s.keyRow := rfl
@[simp] theorem State.resetTo_onKey (m : Model) : (s.resetTo m).onKey = s.onKey := rfl
@[simp] theorem State.resetTo_startupOn (m : Model) : (s.resetTo m).startupOn = s.startupTicks := rfl
@[simp] theorem State.resetTo_exitNow (m : Model) : (s.resetTo m).exitNow = false := rfl
@[simp] theorem State.resetTo_uCount (m : Model) : (s.resetTo m).uCount = 0 := rfl
@[simp] theorem State.resetTo_uperiod (m : Model) : (s.resetTo m).uperiod = s.uperiod := rfl
@[simp] theorem State.resetTo_startupTicks (m : Model) : (s.resetTo m).startupTicks = s.startupTicks := rfl
@[simp] theorem State.resetTo_linkIdle (m : Model) : (s.resetTo m).linkIdle = s.linkIdle := rfl
@[simp] theorem State.resetTo_romImages (m : Model) : (s.resetTo m).romImages = s.romImages := rfl
@[simp] theorem State.resetTo_pending (m : Model) : (s.resetTo m).pending = s.pending := rfl
@[simp] theorem State.resetTo_result (m : Model) : (s.resetTo m).result = s.result := rfl
@[simp] theorem State.resetTo_strobe (m : Model) : (s.resetTo m).strobe = s.strobe := rfl

end Sys2Proof.Machine
end

