-- ==== Sys2Proof/Tests/Slice0.lean ====
section
/-! SUPPORT. Slice0.lean: the model's own tests. Words to decode come from spec/opcode_table.json and 30_encoding.md, the
steps from the vectors of 95_test_vectors.md, each named at its test; a witness meets the hypotheses of each statement of
Certificates/Slice0/Obligations.lean that has some. -/

namespace Sys2Proof.Tests

open Sys2Proof Sys2Proof.Machine

/-! ### Small states -/

/-- The block after `RESET` to a model. -/
def on (m : Model) : State := State.reset.resetTo m

/-- A value of the next state, if there is one. -/
def got {α : Type} (a : Answer) (f : State → α) : Option α :=
  match a with
  | .next t => some (f t)
  | .fault _ => none
  | .refused _ => none

/-- A value of the state after a list of operations. -/
def ran {α : Type} (is : List Instr) (s : State) (f : State → α) : Option α := (execAll is s).map f

/-- The block after `RESET` to M83P with the LCD controller replaced. -/
def withLcd (l : Lcd) : State := (on .m83p).setLcd l

/-- M83P with an image that lists the first byte of ROM page 3. -/
def withRom : State :=
  { State.reset with romImages := State.openImages.set 4 ⟨0x080000, [(0xC000, 0x03)]⟩ }.resetTo .m83p

/-- A block without startup grace on M85, with the control register given. -/
def ticking (ctl : Byte) (grace n : Nat) (key : Bool) : State :=
  { (on .m85).setPort 3 ctl with startupOn := grace, uCount := n, onKey := key }

/-! ### WellFormed: each check refuses an ill-formed term -/

theorem test_wf_in_unmapped : (Instr.inUnmapped 0 0x08).wellFormed = true ∧ (Instr.inUnmapped 0 0x07).wellFormed = false := by
  decide
theorem test_wf_out_unmapped :
    (Instr.outUnmapped 1 0x10 0x00).wellFormed = true ∧ (Instr.outUnmapped 2 0x11 0x00).wellFormed = false := by decide
theorem test_wf_reset : (Instr.reset 7).wellFormed = true ∧ (Instr.reset 8).wellFormed = false := by decide

/-! ### Decoding: each constructor's word, from the `match` column of spec/opcode_table.json -/

/-- The keys of M85 (30_encoding.md R76), the data byte 0xA5 in bits 23:16 of an OUT. -/
theorem test_decode_m85 : ∀ r ∈ (
    [(16, 0x0000, .inPlainM85_00), (24, 0xA51000, .outPlainM85_00 0xA5), (16, 0x0001, .inKeypadM85_01),
     (24, 0xA51001, .outKeypadM85_01 0xA5), (16, 0x0002, .inContrastM85_02),
     (24, 0xA51002, .outContrastM85_02 0xA5), (16, 0x0003, .inStatusM85_03),
     (24, 0xA51003, .outControlM85_03 0xA5), (16, 0x0004, .inPlainM85_04),
     (24, 0xA51004, .outPlainM85_04 0xA5), (16, 0x0005, .inPageM85_05), (24, 0xA51005, .outPageM85_05 0xA5),
     (16, 0x0006, .inPlainM85_06), (24, 0xA51006, .outPlainM85_06 0xA5), (16, 0x0007, .inLinkM85_07),
     (24, 0xA51007, .outLinkM85_07 0xA5)] : List (Nat × Nat × Instr)),
    decodeTableWord r.1 r.2.1 = some r.2.2 := by decide

/-- The keys of M86 (30_encoding.md R76), the data byte 0xA5 in bits 23:16 of an OUT. -/
theorem test_decode_m86 : ∀ r ∈ (
    [(16, 0x0100, .inPlainM86_00), (24, 0xA51100, .outPlainM86_00 0xA5), (16, 0x0101, .inKeypadM86_01),
     (24, 0xA51101, .outKeypadM86_01 0xA5), (16, 0x0102, .inContrastM86_02),
     (24, 0xA51102, .outContrastM86_02 0xA5), (16, 0x0103, .inStatusM86_03),
     (24, 0xA51103, .outControlM86_03 0xA5), (16, 0x0104, .inPlainM86_04),
     (24, 0xA51104, .outPlainM86_04 0xA5), (16, 0x0105, .inPageM86_05), (24, 0xA51105, .outPageM86_05 0xA5),
     (16, 0x0106, .inPageM86_06), (24, 0xA51106, .outPageM86_06 0xA5), (16, 0x0107, .inLinkM86_07),
     (24, 0xA51107, .outLinkM86_07 0xA5)] : List (Nat × Nat × Instr)),
    decodeTableWord r.1 r.2.1 = some r.2.2 := by decide

/-- The keys of M82 (30_encoding.md R76), the data byte 0xA5 in bits 23:16 of an OUT. -/
theorem test_decode_m82 : ∀ r ∈ (
    [(16, 0x0200, .inLinkM82_00), (24, 0xA51200, .outLinkM82_00 0xA5), (16, 0x0201, .inKeypadM82_01),
     (24, 0xA51201, .outKeypadM82_01 0xA5), (16, 0x0202, .inPageM82_02), (24, 0xA51202, .outPageM82_02 0xA5),
     (16, 0x0203, .inStatusM82_03), (24, 0xA51203, .outControlM82_03 0xA5), (16, 0x0204, .inPlainM82_04),
     (24, 0xA51204, .outPlainM82_04 0xA5), (16, 0x0205, .inPlainM82_05), (24, 0xA51205, .outPlainM82_05 0xA5),
     (16, 0x0206, .inPlainM82_06), (24, 0xA51206, .outPlainM82_06 0xA5), (16, 0x0207, .inPlainM82_07),
     (24, 0xA51207, .outPlainM82_07 0xA5), (16, 0x0210, .inLcdstatM82_10),
     (24, 0xA51210, .outLcdcmdM82_10 0xA5), (16, 0x0211, .inLcddataM82_11),
     (24, 0xA51211, .outLcddataM82_11 0xA5)] : List (Nat × Nat × Instr)),
    decodeTableWord r.1 r.2.1 = some r.2.2 := by decide

/-- The keys of M83 (30_encoding.md R76), the data byte 0xA5 in bits 23:16 of an OUT. -/
theorem test_decode_m83 : ∀ r ∈ (
    [(16, 0x0300, .inLinkM83_00), (24, 0xA51300, .outLinkM83_00 0xA5), (16, 0x0301, .inKeypadM83_01),
     (24, 0xA51301, .outKeypadM83_01 0xA5), (16, 0x0302, .inPageM83_02), (24, 0xA51302, .outPageM83_02 0xA5),
     (16, 0x0303, .inStatusM83_03), (24, 0xA51303, .outControlM83_03 0xA5), (16, 0x0304, .inPageM83_04),
     (24, 0xA51304, .outMapselM83_04 0xA5), (16, 0x0305, .inPlainM83_05), (24, 0xA51305, .outPlainM83_05 0xA5),
     (16, 0x0306, .inPlainM83_06), (24, 0xA51306, .outPlainM83_06 0xA5), (16, 0x0307, .inPlainM83_07),
     (24, 0xA51307, .outPlainM83_07 0xA5), (16, 0x0310, .inLcdstatM83_10),
     (24, 0xA51310, .outLcdcmdM83_10 0xA5), (16, 0x0311, .inLcddataM83_11),
     (24, 0xA51311, .outLcddataM83_11 0xA5)] : List (Nat × Nat × Instr)),
    decodeTableWord r.1 r.2.1 = some r.2.2 := by decide

/-- The keys of M83P (30_encoding.md R76), the data byte 0xA5 in bits 23:16 of an OUT. -/
theorem test_decode_m83p : ∀ r ∈ (
    [(16, 0x0400, .inLinkM83P_00), (24, 0xA51400, .outLinkM83P_00 0xA5), (16, 0x0401, .inKeypadM83P_01),
     (24, 0xA51401, .outKeypadM83P_01 0xA5), (16, 0x0402, .inPlainM83P_02),
     (24, 0xA51402, .outPlainM83P_02 0xA5), (16, 0x0403, .inControlM83P_03),
     (24, 0xA51403, .outControlM83P_03 0xA5), (16, 0x0404, .inStatusM83P_04),
     (24, 0xA51404, .outMapselM83P_04 0xA5), (16, 0x0405, .inPlainM83P_05),
     (24, 0xA51405, .outPlainM83P_05 0xA5), (16, 0x0406, .inPageM83P_06), (24, 0xA51406, .outPageM83P_06 0xA5),
     (16, 0x0407, .inPageM83P_07), (24, 0xA51407, .outPageM83P_07 0xA5), (16, 0x0410, .inLcdstatM83P_10),
     (24, 0xA51410, .outLcdcmdM83P_10 0xA5), (16, 0x0411, .inLcddataM83P_11),
     (24, 0xA51411, .outLcddataM83P_11 0xA5)] : List (Nat × Nat × Instr)),
    decodeTableWord r.1 r.2.1 = some r.2.2 := by decide

/-- The keys of M83SE (30_encoding.md R76), the data byte 0xA5 in bits 23:16 of an OUT. -/
theorem test_decode_m83se : ∀ r ∈ (
    [(16, 0x0500, .inLinkM83SE_00), (24, 0xA51500, .outLinkM83SE_00 0xA5), (16, 0x0501, .inKeypadM83SE_01),
     (24, 0xA51501, .outKeypadM83SE_01 0xA5), (16, 0x0502, .inPlainM83SE_02),
     (24, 0xA51502, .outPlainM83SE_02 0xA5), (16, 0x0503, .inControlM83SE_03),
     (24, 0xA51503, .outControlM83SE_03 0xA5), (16, 0x0504, .inStatusM83SE_04),
     (24, 0xA51504, .outMapselM83SE_04 0xA5), (16, 0x0505, .inPageM83SE_05),
     (24, 0xA51505, .outPageM83SE_05 0xA5), (16, 0x0506, .inPageM83SE_06),
     (24, 0xA51506, .outPageM83SE_06 0xA5), (16, 0x0507, .inPageM83SE_07),
     (24, 0xA51507, .outPageM83SE_07 0xA5), (16, 0x0510, .inLcdstatM83SE_10),
     (24, 0xA51510, .outLcdcmdM83SE_10 0xA5), (16, 0x0511, .inLcddataM83SE_11),
     (24, 0xA51511, .outLcddataM83SE_11 0xA5)] : List (Nat × Nat × Instr)),
    decodeTableWord r.1 r.2.1 = some r.2.2 := by decide

/-- The keys of M84P (30_encoding.md R76), the data byte 0xA5 in bits 23:16 of an OUT. -/
theorem test_decode_m84p : ∀ r ∈ (
    [(16, 0x0600, .inLinkM84P_00), (24, 0xA51600, .outLinkM84P_00 0xA5), (16, 0x0601, .inKeypadM84P_01),
     (24, 0xA51601, .outKeypadM84P_01 0xA5), (16, 0x0602, .inPlainM84P_02),
     (24, 0xA51602, .outPlainM84P_02 0xA5), (16, 0x0603, .inControlM84P_03),
     (24, 0xA51603, .outControlM84P_03 0xA5), (16, 0x0604, .inStatusM84P_04),
     (24, 0xA51604, .outMapselM84P_04 0xA5), (16, 0x0605, .inPageM84P_05),
     (24, 0xA51605, .outPageM84P_05 0xA5), (16, 0x0606, .inPageM84P_06), (24, 0xA51606, .outPageM84P_06 0xA5),
     (16, 0x0607, .inPageM84P_07), (24, 0xA51607, .outPageM84P_07 0xA5), (16, 0x0610, .inLcdstatM84P_10),
     (24, 0xA51610, .outLcdcmdM84P_10 0xA5), (16, 0x0611, .inLcddataM84P_11),
     (24, 0xA51611, .outLcddataM84P_11 0xA5)] : List (Nat × Nat × Instr)),
    decodeTableWord r.1 r.2.1 = some r.2.2 := by decide

/-- The keys of M84SE (30_encoding.md R76), the data byte 0xA5 in bits 23:16 of an OUT. -/
theorem test_decode_m84se : ∀ r ∈ (
    [(16, 0x0700, .inLinkM84SE_00), (24, 0xA51700, .outLinkM84SE_00 0xA5), (16, 0x0701, .inKeypadM84SE_01),
     (24, 0xA51701, .outKeypadM84SE_01 0xA5), (16, 0x0702, .inPlainM84SE_02),
     (24, 0xA51702, .outPlainM84SE_02 0xA5), (16, 0x0703, .inControlM84SE_03),
     (24, 0xA51703, .outControlM84SE_03 0xA5), (16, 0x0704, .inStatusM84SE_04),
     (24, 0xA51704, .outMapselM84SE_04 0xA5), (16, 0x0705, .inPageM84SE_05),
     (24, 0xA51705, .outPageM84SE_05 0xA5), (16, 0x0706, .inPageM84SE_06),
     (24, 0xA51706, .outPageM84SE_06 0xA5), (16, 0x0707, .inPageM84SE_07),
     (24, 0xA51707, .outPageM84SE_07 0xA5), (16, 0x0710, .inLcdstatM84SE_10),
     (24, 0xA51710, .outLcdcmdM84SE_10 0xA5), (16, 0x0711, .inLcddataM84SE_11),
     (24, 0xA51711, .outLcddataM84SE_11 0xA5)] : List (Nat × Nat × Instr)),
    decodeTableWord r.1 r.2.1 = some r.2.2 := by decide

/-- The twelve command bytes of 30_encoding.md R66, with the ignored bits of R68 at 0 and at 1. -/
theorem test_decode_lcd : ∀ r ∈ (
    [(0xC5, .lcdSetcontrast 5), (0xBF, .lcdSetrow 63), (0x48, .lcdSetscroll 8), (0x2E, .lcdSetcol 0 14),
     (0x35, .lcdSetcol 1 5), (0x00, .lcdMode6 0), (0x18, .lcdMode6 3), (0x01, .lcdMode8 0), (0x02, .lcdOff 0),
     (0x0B, .lcdOn 1), (0x04, .lcdDirRowdec 0), (0x05, .lcdDirRowinc 0), (0x06, .lcdDirColdec 0),
     (0x1F, .lcdDirColinc 3)] : List (Nat × Instr)),
    decodeTableWord 8 r.1 = some r.2 := by decide

/-- Keys that no full-key row matches (95_test_vectors.md, program D, steps 10 and 11) and a tag no model has. -/
theorem test_decode_default :
    decodeTableWord 16 0x0110 = some (.inUnmapped 1 0x10) ∧
    decodeTableWord 24 0x011110 = some (.outUnmapped 1 0x10 0x01) ∧
    decodeTableWord 16 0x0801 = some (.inUnmapped 8 0x01) := by decide

/-- MEM: `dir` in bit 0, then the operands. -/
theorem test_decode_mem :
    decode .mem [0, 0x05, 0x40] = .ok (.memrd 0x4005, []) ∧
    decode .mem [1, 0x23, 0x81, 0x77] = .ok (.memwr 0x8123 0x77, []) := ⟨rfl, rfl⟩

/-- TICK, RESET, HOSTEXIT and HOSTKEYS, told apart by their interface (30_encoding.md R76). -/
theorem test_decode_events :
    decode .tick [1] = .ok (.tick true, []) ∧ decode .reset [4] = .ok (.reset 4, []) ∧
    decode .hostexit [] = .ok (.hostexit, []) ∧
    decode .hostkeys [0xFF, 0xFF, 0xFF, 0xEF, 0xFF, 0xFF, 0xFF, 0xFF, 1] =
      .ok (.hostkeys #v[0xFF, 0xFF, 0xFF, 0xEF, 0xFF, 0xFF, 0xFF, 0xFF] true, []) := ⟨rfl, rfl, rfl, rfl⟩

/-- Bits outside the formats are rejected by name. -/
theorem test_decode_rejects :
    decode .port [0x01, 0x20] = .error .spareBits ∧ decode .port [0x01, 0x10] = .error .shortWord ∧
    decode .tick [2] = .error .spareBits := ⟨rfl, rfl, rfl⟩

/-- A word placed in the state after reset is what the next step runs: `OUT.PAGE@M83P.06` with 0x03 (95_test_vectors.md,
program A, step 1), and `LCD.SETROW 10`. -/
theorem test_fetch_word :
    got (step (State.reset.withFetchWord 24 0x031406)) (fun t => (t.page[1], t.pending)) = some (⟨.rom, 0xC000⟩, []) ∧
    got (step (State.reset.withFetchWord 8 0x8A)) (fun t => t.lcd.row) = some 10 := by decide

/-! ### Steps: the vectors of 95_test_vectors.md -/

/-- Section 2.1, Family A: rows 0x0B and 0xF3. -/
theorem test_windows_a :
    got (exec (.outPageM85_05 0x0B) (on .m85)) (fun t => t.page[1]) = some ⟨.rom, 0x0C000⟩ ∧
    got (exec (.outPageM82_02 0xF3) (on .m82)) (fun t => t.page[1]) = some ⟨.rom, 0x0C000⟩ := by decide

/-- Section 2.1, Family B: 0x48 and 0xC1. -/
theorem test_windows_b :
    got (exec (.outPageM86_05 0x48) (on .m86)) (fun t => t.page[1]) = some ⟨.ram, 0x00000⟩ ∧
    got (exec (.outPageM86_06 0xC1) (on .m86)) (fun t => t.page[2]) = some ⟨.ram, 0x04000⟩ := by decide

/-- Section 2.1, Family C: the rows (0x10, 0x85, 0x00) and (0x10, 0x85, 0x01). -/
theorem test_windows_c :
    ran [.outLinkM83_00 0x10, .outPageM83_02 0x85] (on .m83) (fun t => (t.page[1], t.page[2])) =
      some (⟨.rom, 0x34000⟩, ⟨.rom, 0x34000⟩) ∧
    ran [.outLinkM83_00 0x10, .outPageM83_02 0x85, .outMapselM83_04 0x01] (on .m83) (fun t => (t.page[1], t.page[2])) =
      some (⟨.ram, 0x00000⟩, ⟨.rom, 0x14000⟩) := by decide

/-- Section 2.1, Family D: M83P in map state 1, (0x03, 0x41). -/
theorem test_windows_d :
    ran [.outPageM83P_06 0x03, .outPageM83P_07 0x41, .outMapselM83P_04 0x01] (on .m83p) State.page =
      some #v[⟨.rom, 0x00000⟩, ⟨.rom, 0x08000⟩, ⟨.rom, 0x0C000⟩, ⟨.ram, 0x04000⟩] := by decide

/-- Section 2.1, Family D with page C: M83SE in map state 0, (0x7F, 0x87, 0x0A). -/
theorem test_windows_page_c :
    ran [.outPageM83SE_06 0x7F, .outPageM83SE_07 0x87, .outPageM83SE_05 0x0A] (on .m83se) State.page =
      some #v[⟨.rom, 0x00000⟩, ⟨.rom, 0x1FC000⟩, ⟨.ram, 0x1C000⟩, ⟨.ram, 0x08000⟩] := by decide

/-- Section 2.2, rows 6 and 7: the last RAM byte, and a write through a ROM window. -/
theorem test_memwr :
    got (exec (.memwr 0xFFFF 0x11) (on .m85)) (fun t => t.ram) = some [(0x7FFF, 0x11)] ∧
    got (exec (.memwr 0x0000 0x5A) (on .m85)) (fun t => t.ram) = some [] := by decide

/-- Program A, steps 1 and 2: a ROM byte; and section 2.2, rows 12 and 13: two windows on one RAM byte. -/
theorem test_memrd :
    ran [.outPageM83P_06 0x03, .memrd 0x4000] withRom State.result = some (some (.byte 0x03)) ∧
    ran [.outPageM83P_06 0x40, .memwr 0xC010 0xCD, .memrd 0x4010] (on .m83p) State.result = some (some (.byte 0xCD)) := by decide

/-- Section 2.3, M83SE, port 0x05: slot 10, not slot 5. -/
theorem test_page_c_slot :
    got (exec (.outPageM83SE_05 0xA5) (on .m83se)) (fun t => (t.ports[10], t.ports[5])) = some (0xA5, 0x00) ∧
    ran [.outPageM83SE_05 0xA5, .inPageM83SE_05] (on .m83se) State.result = some (some (.byte 0xA5)) := by decide

/-- Section 2.3, M82, port 0x00: the link reads its idle value, and no window changes. -/
theorem test_link :
    ran [.outLinkM82_00 0xA5, .inLinkM82_00] (on .m82) (fun t => (t.result, t.ports[0])) =
      some (some (.byte 0x03), 0xA5) := by decide

/-- Section 2.3, port 0x03: M85 reads STATUS, M83P the control register. -/
theorem test_control_and_status :
    ran [.outControlM85_03 0xA5, .inStatusM85_03] (on .m85) State.result = some (some (.byte 0x00)) ∧
    ran [.outControlM83P_03 0xA5, .inControlM83P_03] (on .m83p) State.result = some (some (.byte 0xA5)) := by decide

/-- Section 2.3, M85, port 0x02: the byte is stored and the strobe carries it. -/
theorem test_contrast :
    got (exec (.outContrastM85_02 0xA5) (on .m85)) (fun t => (t.ports[2], t.strobe)) =
      some (0xA5, some (.colourRecompute 0xA5)) := by decide

/-- Section 2.3, port 0x08 on M85 and port 0x10 on M86. -/
theorem test_unmapped :
    got (exec (.inUnmapped 0 0x08) (on .m85)) State.result = some (some (.byte 0xFF)) ∧
    execAll [.outUnmapped 1 0x10 0x01] (on .m86) = some (on .m86) := by decide

/-- Section 2.3, the keypad table: select 0xDA and 0x5A. -/
theorem test_keypad :
    ran [.hostkeys #v[0xFE, 0xFF, 0xF7, 0xFF, 0xFF, 0xBF, 0xFF, 0x7F] false, .outKeypadM85_01 0xDA, .inKeypadM85_01]
      (on .m85) State.result = some (some (.byte 0xB6)) ∧
    ran [.hostkeys #v[0xFE, 0xFF, 0xF7, 0xFF, 0xFF, 0xBF, 0xFF, 0x7F] false, .outKeypadM85_01 0x5A, .inKeypadM85_01]
      (on .m85) State.result = some (some (.byte 0x36)) := by decide

/-- Section 2.4, the command table: 0x3F and 0xDF. -/
theorem test_lcd_commands :
    got (exec (.lcdSetcol 1 15) (on .m83)) (fun t => (t.lcd.col, t.lcd.delay)) = some (15, true) ∧
    got (exec (.lcdSetcontrast 31) (on .m83)) (fun t => (t.lcd.contrast, t.strobe)) =
      some (31, some (.colourRecompute 0x1F)) := by decide

/-- Section 2.4, the status accumulation: 0x63, then 0x43. -/
theorem test_lcd_status :
    ran [.lcdMode8 0, .lcdOn 0, .lcdDirColinc 0, .inLcdstatM83_10] (on .m83) State.result = some (some (.byte 0x63)) ∧
    ran [.lcdMode8 0, .lcdOn 0, .lcdDirColinc 0, .lcdOff 0, .inLcdstatM83_10] (on .m83) State.result =
      some (some (.byte 0x43)) := by decide

/-- Section 2.4, the delay table, steps 1 and 2. -/
theorem test_lcd_delay :
    ran [.lcdMode8 0, .lcdDirColinc 0, .lcdSetcol 0 0, .outLcddataM83P_11 0xA5, .lcdSetcol 0 0, .inLcddataM83P_11]
      (on .m83p) (fun t => (t.result, t.lcd.col)) = some (some (.byte 0x00), 0) ∧
    ran [.lcdMode8 0, .lcdDirColinc 0, .lcdSetcol 0 0, .outLcddataM83P_11 0xA5, .lcdSetcol 0 0, .inLcddataM83P_11,
      .inLcddataM83P_11] (on .m83p) (fun t => (t.result, t.lcd.col)) = some (some (.byte 0xA5), 1) := by decide

/-- Section 2.4, column wrap in 8-bit mode: increment 14 to 0, decrement 0 to 14. -/
theorem test_lcd_wrap :
    ran [.lcdMode8 0, .lcdDirColinc 0, .lcdSetrow 3, .lcdSetcol 0 14, .outLcddataM82_11 0x3C] (on .m82)
      (fun t => (t.lcd.byteAt 3 14, t.lcd.col)) = some (0x3C, 0) ∧
    ran [.lcdMode8 0, .lcdDirColdec 0, .lcdSetcol 0 0, .outLcddataM82_11 0x77] (on .m82)
      (fun t => (t.lcd.byteAt 0 0, t.lcd.col)) = some (0x77, 14) := by decide

/-- Section 2.4, out of range: row 1 (increment) and row 3 (decrement). -/
theorem test_lcd_out_of_range :
    ran [.lcdMode8 0, .lcdDirColinc 0, .lcdSetcol 0 15, .outLcddataM83P_11 0xEE] (on .m83p)
      (fun t => (t.lcd.buf == Lcd.reset.buf, t.lcd.col)) = some (true, 0) ∧
    ran [.lcdMode8 0, .lcdDirColdec 0, .lcdSetcol 0 15, .outLcddataM83P_11 0xEE] (on .m83p)
      (fun t => t.lcd.col) = some 14 := by decide

/-- Section 2.4, row wrap: row-decrement from row 0. -/
theorem test_lcd_row_wrap :
    ran [.lcdMode8 0, .lcdDirRowdec 0, .lcdSetrow 0, .lcdSetcol 0 2, .outLcddataM84P_11 0x12] (on .m84p)
      (fun t => (t.lcd.byteAt 0 2, t.lcd.row)) = some (0x12, 63) := by decide

/-- Section 2.5, the packing table: two writes from column 1, bytes 0 to 2. -/
theorem test_lcd_six_bit :
    ran [.lcdDirColinc 0, .lcdSetcol 0 1, .outLcddataM84SE_11 0x2A, .outLcddataM84SE_11 0xFF] (on .m84se)
      (fun t => (t.lcd.byteAt 0 0, t.lcd.byteAt 0 1, t.lcd.byteAt 0 2, t.lcd.col)) = some (0x02, 0xAF, 0xC0, 3) := by decide

/-- Section 2.5, reading back column 2. -/
theorem test_lcd_six_bit_read :
    ran [.lcdDirColinc 0, .lcdSetcol 0 2, .outLcddataM83SE_11 0xFF, .lcdSetcol 0 2, .inLcddataM83SE_11,
      .inLcddataM83SE_11] (on .m83se) (fun t => (t.result, t.lcd.col)) = some (some (.byte 0x3F), 3) := by decide

/-- Section 2.6, the status table: 0x07 with the key released, 0x11 with the key pressed. -/
theorem test_tick_status :
    got (exec (.tick false) (ticking 0x07 0 0 false)) (fun t => (t.ports[8], t.result)) =
      some (0x0E, some (.tick .irq)) ∧
    got (exec (.tick false) (ticking 0x11 0 0 true)) (fun t => (t.ports[8], t.result)) =
      some (0x01, some (.tick .irq)) := by decide

/-- Section 2.6, power-off: rows 3 and 4. -/
theorem test_tick_power_off :
    got (exec (.tick true) (ticking 0x01 1 0 false)) (fun t => (t.result, t.exitNow, t.startupOn)) =
      some (some (.tick .irq), false, 0) ∧
    got (exec (.tick true) (ticking 0x11 0 0 false)) (fun t => (t.result, t.exitNow, t.ports[8])) =
      some (some (.tick .quit), true, 0x08) := by decide

/-- Section 2.6, single steps of the refresh timer: 39900 and 39899. -/
theorem test_tick_refresh :
    got (exec (.tick false) (ticking 0 0 39900 false)) (fun t => (t.uCount, t.strobe)) = some (0, some .refresh) ∧
    got (exec (.tick false) (ticking 0 0 39899 false)) (fun t => (t.uCount, t.strobe)) = some (39999, none) := by decide

/-- Section 2.6, HOSTEXIT: the next operation runs, the next tick returns QUIT. -/
theorem test_hostexit :
    ran [.hostexit, .inKeypadM85_01] (on .m85) State.result = some (some (.byte 0xFF)) ∧
    ran [.hostexit, .tick false] (on .m85) State.result = some (some (.tick .quit)) := by decide

/-- Section 2.7, the reset in mid-run: the registers and the windows are as after a reset, the keys are kept. -/
theorem test_reset :
    ran [.hostkeys (Vector.replicate 8 0xEF) true, .outPageM83P_06 0x03, .outMapselM83P_04 0x01, .hostexit, .reset 4]
      (on .m83p) (fun t => (t.ports == (on .m83p).ports, t.page == (on .m83p).page, t.exitNow, t.onKey, t.keyRow[0])) =
      some (true, true, false, true, 0xEF) := by decide

/-- P7: a RESET with an image of another size is refused and leaves the block. -/
theorem test_reset_refused :
    got (exec (.reset 5) { on .m83p with romImages := (on .m83p).romImages.set 5 ⟨0x80000, []⟩ })
      (fun t => (t.model, t.result)) = some (.m83p, some .refused) := by decide

/-! ### Witnesses: the hypotheses of each statement can be met -/

theorem witness_StepRunsDecodedOperation :
    ∃ s : State, ∃ e : Pending, s.pending = e :: [⟨.tick true, none⟩] ∧
      decode e.op.iface (e.op.bytes s.model) = .ok (.outPageM83P_06 0x03, []) ∧
      (Instr.outPageM83P_06 0x03).wellFormed = true :=
  ⟨{ on .m83p with pending := [⟨.output 0x06 0x03, some 50⟩, ⟨.tick true, none⟩] }, ⟨.output 0x06 0x03, some 50⟩,
    rfl, rfl, rfl⟩

theorem witness_IdleStepChangesNothing : State.reset.pending = [] := rfl

/-- The condition of the second clause, at its boundary: model index 7. -/
theorem witness_EveryRequestDecodes : ∀ k, Request.reset 7 = .reset k → k.toNat < 8 := by
  intro k h; cases h; decide

theorem witness_DecodeOfEncodeIsIdentity :
    (Instr.reset 7).wellFormed = true ∧ (Instr.inUnmapped 0 0x08).wellFormed = true ∧
    (Instr.outUnmapped 8 0x00 0xFF).wellFormed = true ∧ (Instr.lcdSetcol 1 15).wellFormed = true := ⟨rfl, rfl, rfl, rfl⟩

theorem witness_EncodeOfDecodeIsIdentity :
    decode .port [0x06, 0x14, 0x03, 0x99] = .ok (.outPageM83P_06 0x03, [0x99]) := rfl

/-- Mapped and unmapped keys where the two clauses meet. -/
theorem witness_DefaultRowsAreTheUnmappedKeys :
    portMapped 0 0x07 = true ∧ portMapped 0 0x08 = false ∧ portMapped 2 0x11 = true ∧ portMapped 1 0x11 = false ∧
    portMapped 8 0x00 = false := ⟨rfl, rfl, rfl, rfl, rfl⟩

theorem witness_InPlainReturnsRegister : (Model.m85, 0, .inPlainM85_00) ∈ Rows.inPlain ∧ (on .m85).model = .m85 := ⟨.head _, rfl⟩

theorem witness_OutPlainStoresByte : (Model.m85, 0, .outPlainM85_00) ∈ Rows.outPlain ∧ (on .m85).model = .m85 := ⟨.head _, rfl⟩

theorem witness_OutKeypadStoresSelect : (Model.m85, .outKeypadM85_01) ∈ Rows.outKeypad ∧ (on .m85).model = .m85 := ⟨.head _, rfl⟩

theorem witness_InKeypadScansSelectedRows : (Model.m85, .inKeypadM85_01) ∈ Rows.inKeypad ∧ (on .m85).model = .m85 := ⟨.head _, rfl⟩

theorem witness_InStatusReturnsStatus : (Model.m85, .inStatusM85_03) ∈ Rows.inStatus ∧ (on .m85).model = .m85 := ⟨.head _, rfl⟩

theorem witness_OutControlStoresControl : (Model.m85, .outControlM85_03) ∈ Rows.outControl ∧ (on .m85).model = .m85 := ⟨.head _, rfl⟩

theorem witness_InControlReturnsControl : (Model.m83p, .inControlM83P_03) ∈ Rows.inControl ∧ (on .m83p).model = .m83p := ⟨.head _, rfl⟩

theorem witness_OutMapselStoresAndRemaps : (Model.m83, .outMapselM83_04) ∈ Rows.outMapsel ∧ (on .m83).model = .m83 := ⟨.head _, rfl⟩

theorem witness_OutPageStoresAndRemaps : (Model.m85, 5, .outPageM85_05) ∈ Rows.outPage ∧ (on .m85).model = .m85 := ⟨.head _, rfl⟩

theorem witness_InPageReturnsRegister : (Model.m85, 5, .inPageM85_05) ∈ Rows.inPage ∧ (on .m85).model = .m85 := ⟨.head _, rfl⟩

theorem witness_InLcdstatReturnsLcdStatus : (Model.m82, .inLcdstatM82_10) ∈ Rows.inLcdstat ∧ (on .m82).model = .m82 := ⟨.head _, rfl⟩

theorem witness_OutLcdcmdRunsTheCommand : (Model.m82, .outLcdcmdM82_10) ∈ Rows.outLcdcmd ∧ (on .m82).model = .m82 := ⟨.head _, rfl⟩

theorem witness_OneDummyReadAfterAnyCommand : (Model.m82, .inLcddataM82_11) ∈ Rows.inLcddata ∧ (on .m82).model = .m82 := ⟨.head _, rfl⟩

theorem witness_ContrastPortStoresStrobesAndReads :
    (Model.m85, .outContrastM85_02) ∈ Rows.outContrast ∧ (Model.m85, .inContrastM85_02) ∈ Rows.inContrast ∧
    (on .m85).model = .m85 := ⟨.head _, .head _, rfl⟩

/-- Both sides of the statement's condition: a row of M85 and the row of M83. -/
theorem witness_OutLinkStoresAndRemapsOnM83 :
    (Model.m85, 7, .outLinkM85_07) ∈ Rows.outLink ∧ (on .m85).model = .m85 ∧
    (Model.m83, 0, .outLinkM83_00) ∈ Rows.outLink ∧ (on .m83).model = .m83 :=
  ⟨.head _, rfl, .tail _ (.tail _ (.tail _ (.head _))), rfl⟩

/-- A state that meets the invariant, other than the state after reset. -/
theorem witness_inv : (on .m83p).Inv where
  windows := by decide
  ramWf := rfl
  ramBound := fun _ h => by cases h
  imagesWf := fun m => by cases m <;> rfl
  romIsImage := rfl
  imageFits := rfl
  statusHigh := rfl
  link := rfl
  pageC := fun _ => rfl
  port5 := fun h => by cases h
  reserved := by decide
  lcdStatus := rfl
  lcdPadding := by decide
  lcdCol := by decide
  lcdAbsent := fun _ => rfl
  startup := Nat.le_refl _

theorem witness_InLinkReturnsIdle :
    (Model.m83p, .inLinkM83P_00) ∈ Rows.inLink ∧ (on .m83p).model = .m83p ∧ (on .m83p).Inv :=
  ⟨.tail _ (.tail _ (.tail _ (.tail _ (.head _)))), rfl, witness_inv⟩

/-- Unmapped addresses next to mapped ones, without and with LCD controller. -/
theorem witness_UnmappedPortsReadFFAndIgnoreWrites :
    portMapped (tagField (on .m85).model) 0x08 = false ∧ portMapped (tagField (on .m86).model) 0x10 = false ∧
    portMapped (tagField (on .m82).model) 0x0F = false ∧ portMapped (tagField (on .m84se).model) 0x12 = false :=
  ⟨rfl, rfl, rfl, rfl⟩

theorem witness_LcdAddressCommandsStoreOperand : (on .m82).model.cfg.hasLcdc = true := rfl

theorem witness_LcdOpcodeCommandsWriteStatusBits : (on .m84se).model.cfg.hasLcdc = true := rfl

theorem witness_LcdCommandsWithoutControllerChangeNothing :
    (on .m85).model.cfg.hasLcdc = false ∧ (on .m86).model.cfg.hasLcdc = false := ⟨rfl, rfl⟩

/-- The rows of the LCD data port that the next witnesses use. -/
theorem witness_lcddata_rows :
    (Model.m83p, .inLcddataM83P_11) ∈ Rows.inLcddata ∧ (Model.m83p, .outLcddataM83P_11) ∈ Rows.outLcddata ∧
    ∀ l, (withLcd l).model = .m83p :=
  ⟨.tail _ (.tail _ (.head _)), .tail _ (.tail _ (.head _)), fun _ => rfl⟩

theorem witness_LcdReadAfterCommandIsDummy : (withLcd { Lcd.reset with delay := true }).lcd.delay = true := rfl

/-- The four clauses at the columns where they meet: 14 and 15 in 8-bit mode, 19 and 20 in 6-bit mode. -/
theorem witness_LcdReadReturnsPixels :
    (∀ l ∈ [({ Lcd.reset with status := 0x40, col := 14 } : Lcd), { Lcd.reset with status := 0x40, col := 15 },
        { Lcd.reset with col := 19 }, { Lcd.reset with col := 20 }], (withLcd l).lcd.delay = false) ∧
    (withLcd { Lcd.reset with status := 0x40, col := 14 }).lcd.status.getLsbD 6 = true ∧
    (withLcd { Lcd.reset with col := 19 }).lcd.status.getLsbD 6 = false ∧
    (14 : BitVec 5).toNat ≤ 14 ∧ 14 < (15 : BitVec 5).toNat ∧ (19 : BitVec 5).toNat ≤ 19 ∧ 19 < (20 : BitVec 5).toNat := by
  refine ⟨?_, rfl, rfl, by decide, by decide, by decide, by decide⟩
  intro l h
  simp only [List.mem_cons, List.not_mem_nil, or_false] at h
  rcases h with rfl | rfl | rfl | rfl <;> rfl

theorem witness_LcdWriteStoresByte :
    (withLcd { Lcd.reset with status := 0x40, col := 14 }).lcd.status.getLsbD 6 = true ∧
    (withLcd { Lcd.reset with status := 0x40, col := 15 }).lcd.status.getLsbD 6 = true := ⟨rfl, rfl⟩

theorem witness_LcdWriteStoresSixPixels :
    (withLcd { Lcd.reset with col := 19 }).lcd.status.getLsbD 6 = false ∧
    (withLcd { Lcd.reset with col := 20 }).lcd.status.getLsbD 6 = false := ⟨rfl, rfl⟩

/-- The four directions. -/
theorem witness_AdvanceStepsTheCursor :
    ∀ d : BitVec 2, ({ Lcd.reset with status := d.setWidth 8 } : Lcd).status.extractLsb' 0 2 = d := by decide

/-- The last columns of the two clauses: 14 in 8-bit mode, 15 in 6-bit mode. -/
theorem witness_LcdWriteThenReadBack :
    (14 : BitVec 5).toNat ≤ (if (0x40 : Byte).getLsbD 6 then 14 else 15) ∧
    (15 : BitVec 5).toNat ≤ (if (0x00 : Byte).getLsbD 6 then 14 else 15) ∧
    (withLcd { Lcd.reset with status := 0x40, col := 14 }).lcd.col = 14 ∧
    (withLcd { Lcd.reset with col := 15 }).lcd.col = 15 := ⟨by decide, by decide, rfl, rfl⟩

/-- The last byte of the RAM of M85, and the last byte of window 0. -/
theorem witness_MemrdReturnsTheWindowsByte :
    (on .m85).pageOf 0xFFFF = ⟨.ram, 0x4000⟩ ∧ (on .m85).arenaIndex 0xFFFF = 0x7FFF ∧
    0x7FFF < arenaSize (on .m85).model.cfg .ram ∧
    (on .m85).pageOf 0x3FFF = ⟨.rom, 0⟩ ∧ (on .m85).arenaIndex 0x3FFF = 0x3FFF := ⟨rfl, rfl, by decide, rfl, rfl⟩

/-- Both clauses: the last address of a ROM window and of a RAM window. -/
theorem witness_MemwrWritesOneRamByteOrNothing :
    ((on .m85).pageOf 0x7FFF).arena = .rom ∧ ((on .m85).pageOf 0xFFFF).arena = .ram ∧
    (on .m85).arenaIndex 0xFFFF < (on .m85).model.cfg.ramSize := ⟨rfl, rfl, by decide⟩

theorem witness_EveryAddressIsInItsArena : (on .m83p).Inv := witness_inv

/-- The smallest arenas the statement takes in, and the largest of a model. -/
theorem witness_WindowsStayInsideTheirArenas :
    (Model.m85.cfg.romSize = 2 ^ 17 ∧ Model.m85.cfg.ramSize = 2 ^ 15 ∧ 15 ≤ 17 ∧ 15 ≤ 15) ∧
    (Model.m83se.cfg.romSize = 2 ^ 21 ∧ Model.m83se.cfg.ramSize = 2 ^ 17) := by decide

theorem witness_FamilyAWindows : Model.m85.cfg.family = .A 5 ∧ Model.m82.cfg.family = .A 2 := ⟨rfl, rfl⟩

theorem witness_FamilyBWindows :
    Model.m86.cfg.family = .B ∧
    ∃ sel : Byte → Page, ∀ g : Byte, sel g =
      if g.toNat / 64 % 2 = 1 then ⟨.ram, pageOff (g.toNat % 8) Model.m86.cfg.ramSize⟩
      else ⟨.rom, pageOff (g.toNat % 16) Model.m86.cfg.romSize⟩ := ⟨rfl, _, fun _ => rfl⟩

theorem witness_FamilyCWindows : Model.m83.cfg.family = .C := rfl

/-- The two values of the select bit in use. -/
theorem witness_FamilyDWindows :
    (∀ r ∈ [(Model.m83p, 6, false), (.m83se, 7, true)], r.1.cfg.family = .D r.2.1 r.2.2 ∧ r.2.1 < 8) ∧
    ∀ (c : Cfg) (b : Nat), ∃ sel : Byte → Page, ∀ g : Byte, sel g =
      if g.toNat / 2 ^ b % 2 = 1 then ⟨.ram, pageOff (g.toNat % 2 ^ b) c.ramSize⟩
      else ⟨.rom, pageOff (g.toNat % 2 ^ b) c.romSize⟩ := ⟨by decide, fun _ _ => ⟨_, fun _ => rfl⟩⟩

/-- The hypotheses with control 0x07, the key released and no grace left, at the threshold: 39900 + 100. -/
theorem witness_TickRunsItsFiveSteps :
    false = ((ticking 0x07 0 39900 false).exitNow ||
      decide ((ticking 0x07 0 39900 false).ports[3].toNat % 16 = 1 ∧ (ticking 0x07 0 39900 false).startupOn = 0 ∧
        true = true)) ∧
    false = decide ((ticking 0x07 0 39900 false).onKey = true ∨ (ticking 0x07 0 39900 false).startupOn ≠ 0) ∧
    (∀ j : Fin 8, (0x0E : Byte).getLsbD j.val =
      if j = 0 then (ticking 0x07 0 39900 false).ports[3].getLsbD 0 && false
      else if j = 1 then (ticking 0x07 0 39900 false).ports[3].getLsbD 1
      else if j = 2 then (ticking 0x07 0 39900 false).ports[3].getLsbD 2
      else if j = 3 then !false
      else false) ∧
    40000 = (ticking 0x07 0 39900 false).uCount + (ticking 0x07 0 39900 false).uperiod :=
  ⟨by decide, by decide, by decide, rfl⟩

theorem witness_QuitIsStickyUntilReset :
    ∃ t, ({ on .m85 with exitNow := true } : State).exitNow = true ∧
      exec (.tick false) { on .m85 with exitNow := true } = .next t ∧ ∀ m, Instr.tick false ≠ .reset m :=
  ⟨_, rfl, rfl, fun _ h => by cases h⟩

/-- At the bounds: a level at the threshold and a count just below it. -/
theorem witness_RefreshCountKeepsTheRemainder :
    ({ on .m85 with uperiod := 40000, uCount := 39999 } : State).uperiod ≤ 40000 ∧
    ({ on .m85 with uperiod := 40000, uCount := 39999 } : State).uCount < 40000 := by decide

theorem witness_ResetSetsEveryPieceOfState :
    ∀ m : Model, State.reset.romImages[m.index].size = m.cfg.romSize := by intro m; cases m <;> rfl

/-- The first index above 7, and an image of another model's size. -/
theorem witness_RefusedResetLeavesTheBlock :
    8 ≤ (8 : Byte).toNat ∧ Model.m83se.index.val = (5 : Byte).toNat ∧
    ({ on .m83p with romImages := (on .m83p).romImages.set 5 ⟨0x80000, []⟩ } : State).romImages[Model.m83se.index].size ≠
      Model.m83se.cfg.romSize := by decide

/-- A state with an operation pending, and its next state. -/
theorem witness_StepKeepsInv :
    ({ on .m83p with pending := [⟨.output 0x06 0x03, none⟩] } : State).Inv ∧
    ∃ t, step { on .m83p with pending := [⟨.output 0x06 0x03, none⟩] } = .next t :=
  ⟨{ windows := witness_inv.windows, ramWf := rfl, ramBound := witness_inv.ramBound, imagesWf := witness_inv.imagesWf,
     romIsImage := rfl, imageFits := rfl, statusHigh := rfl, link := rfl, pageC := fun _ => rfl,
     port5 := witness_inv.port5, reserved := witness_inv.reserved, lcdStatus := rfl,
     lcdPadding := witness_inv.lcdPadding, lcdCol := witness_inv.lcdCol, lcdAbsent := fun _ => rfl,
     startup := Nat.le_refl _ }, _, rfl⟩

theorem witness_NoRunEverStops : (on .m83p).Inv := witness_inv

/-- The bounds reached: the level and a coming level at the threshold, the count just below it. -/
theorem witness_StepKeepsRefreshBounded :
    ({ on .m85 with uperiod := 40000, uCount := 39999, pending := [⟨.tick false, some 40000⟩] } : State).RefreshBounded ∧
    ∃ t, step { on .m85 with uperiod := 40000, uCount := 39999, pending := [⟨.tick false, some 40000⟩] } = .next t :=
  ⟨⟨by decide, fun e he u hu => (by
    simp only [List.mem_singleton] at he; subst he; cases hu; decide), by decide⟩, _, rfl⟩

/-- A pending MEMWR: it is none of the writers that the statements name but that of RAM. -/
theorem witness_OnlyResetChangesModelAndRom :
    ∃ t, step { on .m85 with pending := [⟨.memwr 0x8000 0x5A, none⟩] } = .next t ∧
      (∀ m, Request.memwr 0x8000 0x5A ≠ .reset m) := ⟨_, rfl, fun _ h => by cases h⟩

/-- A pending IN: no writer of any of the registers named. -/
theorem witness_SpecialRegistersHaveTheirWriters :
    ∃ t, step { on .m83p with pending := [⟨.input 0x04, none⟩] } = .next t ∧
      (∀ k o, Request.input 0x04 ≠ .hostkeys k o) ∧ (∀ m, Request.input 0x04 ≠ .reset m) ∧
      (∀ h, Request.input 0x04 ≠ .tick h) ∧ Request.input 0x04 ≠ .hostexit :=
  ⟨_, rfl, fun _ _ h => (by cases h), fun _ h => (by cases h), fun _ h => (by cases h), by decide⟩

/-- A pending IN of another port, with the delay flag at either value. -/
theorem witness_LcdStateHasItsWriters :
    ∀ b : Bool, (∃ t, step { withLcd { Lcd.reset with delay := b } with pending := [⟨.input 0x10, none⟩] } = .next t) ∧
      (∀ m, Request.input 0x10 ≠ .reset m) ∧ (∀ v, Request.input 0x10 ≠ .output 0x11 v) ∧
      (∀ v, Request.input 0x10 ≠ .output 0x10 v) ∧ (∀ v, Request.input 0x10 ≠ .lcdcmd v) ∧
      Request.input 0x10 ≠ .input 0x11 :=
  fun b => ⟨(by cases b <;> exact ⟨_, rfl⟩), fun _ h => (by cases h), fun _ h => (by cases h), fun _ h => (by cases h),
    fun _ h => (by cases h), by decide⟩

theorem witness_ReadsHaveNoSideEffectButLcdData : (0x10 : Byte) ≠ 0x11 ∧ (0x12 : Byte) ≠ 0x11 := by decide

end Sys2Proof.Tests
end

section
/-! PROOFS of the scope statements: what one step does in each of its cases (00_scope.md R3, R4). -/

namespace Sys2Proof.Machine

/-- R4: the block initiates nothing of its own. -/
theorem step_of_pending_nil {s : State} (hs : s.pending = []) : step s = .next s := by
  simp only [step, hs]

/-- R3: the first pending operation is presented, decoded under the active model, and executed. -/
theorem step_of_fetchDecode_ok {s : State} {e : Pending} {rest : List Pending} {i : Instr} {bs : List Byte}
    (hs : s.pending = e :: rest) (hd : fetchDecode s.model e.op = .ok (i, bs)) :
    step s = exec i (s.present e rest) := by
  simp only [step, hs, hd]

end Sys2Proof.Machine

namespace Sys2Proof.Proofs

open Sys2Proof Sys2Proof.Machine

/-- Settles O1: the statement writes out `fetchDecode` and `State.present`, and is the decoded case of `step`. -/
theorem stepRunsDecodedOperation : Obligations.StepRunsDecodedOperation := by
  intro s e rest i bs hpending hdecode _
  have hfetch : fetchDecode s.model e.op = .ok (i, bs) := hdecode
  exact step_of_fetchDecode_ok hpending hfetch

/-- Settles O2, the idle case of `step`. -/
theorem idleStepChangesNothing : Obligations.IdleStepChangesNothing :=
  fun _ hpending => step_of_pending_nil hpending

end Sys2Proof.Proofs
end

section
/-! PROOFS, the layer below the state statements: the instruction that each request decodes to, and every port row as the
dispatch of its address (30_encoding.md R60 to R76, 41_port_dispatch.md R100). -/

namespace Sys2Proof

/-- The instruction of a request while the model is `m`: a port key carries the model's own tag (30_encoding.md R62). -/
def Request.instr (m : Model) : Request → Instr
  | .memrd a => .memrd a
  | .memwr a v => .memwr a v
  | .input p => inRow (tagField m) p
  | .output p v => outRow (tagField m) p v
  | .lcdcmd v => lcdRow v
  | .tick h => .tick h
  | .reset k => .reset k
  | .hostexit => .hostexit
  | .hostkeys k o => .hostkeys k o

/-- A request's instruction arrives at the request's interface. -/
theorem Request.iface_instr (m : Model) (op : Request) : (op.instr m).iface = op.iface := by
  cases op with
  | input p => exact (encode_inRow _ p).2
  | output p v => exact (encode_outRow _ p v).2
  | lcdcmd v => exact (encode_lcdRow v).2.1
  | memrd | memwr | tick | reset | hostexit | hostkeys => rfl

/-- An instruction that the port decoder reads is a row of some key. -/
theorem decodePort_ok {bs rest : List Byte} {i : Instr} (h : decodePort bs = .ok (i, rest)) :
    (∃ tag p, i = inRow tag p) ∨ (∃ tag p v, i = outRow tag p v) := by
  unfold decodePort at h
  split at h
  · split at h
    · cases h
    · split at h
      · split at h <;> cases h
        exact .inr ⟨_, _, _, rfl⟩
      · cases h
        exact .inl ⟨_, _, rfl⟩
  · cases h

/-- An instruction of the port interface is a default row, or its own bytes decode to it. -/
theorem decodePort_encode {i : Instr} (hi : i.iface = .port) :
    (∃ tag p, i = .inUnmapped tag p) ∨ (∃ tag p v, i = .outUnmapped tag p v) ∨
    decodePort (encode i) = .ok (i, []) := by
  cases i
  case inUnmapped tag p => exact .inl ⟨tag, p, rfl⟩
  case outUnmapped tag p v => exact .inr (.inl ⟨tag, p, v, rfl⟩)
  case memrd | memwr | tick | reset | hostexit | hostkeys => cases hi
  case lcdSetcontrast | lcdSetrow | lcdSetscroll | lcdSetcol | lcdMode6 | lcdMode8 | lcdOff | lcdOn | lcdDirRowdec
    | lcdDirRowinc | lcdDirColdec | lcdDirColinc => cases hi
  all_goals exact .inr (.inr rfl)

end Sys2Proof

namespace Sys2Proof.Machine

/-- A request's bytes decode to its instruction, with no byte left. -/
theorem fetchDecode_eq (m : Model) (op : Request) : fetchDecode m op = .ok (op.instr m, []) := by
  cases op with
  | memrd a => simp [fetchDecode, Request.iface, Request.bytes, Request.instr, decode, decodeMem, addr_bytes]
  | memwr a v => simp [fetchDecode, Request.iface, Request.bytes, Request.instr, decode, decodeMem, addr_bytes]
  | input p =>
    obtain ⟨hport, htag⟩ := portKey_fields m p
    have hbytes : (Request.input p).bytes m = inKey (tagField m) p ++ [] := by simp [Request.bytes, inKey, hport, htag]
    rw [fetchDecode, hbytes]
    exact decode_inKey _ _ _
  | output p v =>
    obtain ⟨hport, htag⟩ := portKey_fields m p
    have hbytes : (Request.output p v).bytes m = outKey (tagField m) p v ++ [] := by
      simp [Request.bytes, outKey, hport, htag]
    rw [fetchDecode, hbytes]
    exact decode_outKey _ _ _ _
  | lcdcmd v => rfl
  | tick h =>
    obtain ⟨hspare, hbit⟩ := bitByte_bit h
    simp only [fetchDecode, Request.iface, Request.bytes, Request.instr, decode, decodeTick, hspare, hbit]; rfl
  | reset k => rfl
  | hostexit => rfl
  | hostkeys k o =>
    obtain ⟨hspare, hbit⟩ := bitByte_bit o
    simp only [fetchDecode, Request.iface, Request.bytes, Request.instr, decode, keys_toList, List.cons_append,
      List.nil_append, decodeKeys, hspare, hbit, keys_of_bytes]; rfl

/-- A step with an operation pending executes its instruction in the state that it is presented to. -/
theorem step_of_pending_cons {s : State} {e : Pending} {rest : List Pending} (hs : s.pending = e :: rest) :
    step s = exec (e.op.instr s.model) (s.present e rest) :=
  step_of_fetchDecode_ok hs (fetchDecode_eq s.model e.op)

/-- The IN row of any key is the dispatch of its address on the active model (notes/assumptions/3.md). -/
theorem exec_inRow (tag : BitVec 4) (p : Byte) (s : State) : exec (inRow tag p) s = .next (portRead p s) := by
  unfold inRow
  split
  on_goal -1 => exact execInUnmapped_eq tag p s
  all_goals
    simp only [inRowM85, inRowM86, inRowM82, inRowM83, inRowM83P, inRowM83SE, inRowM84P, inRowM84SE]
    split
    on_goal -1 => exact execInUnmapped_eq _ p s
    all_goals exact inOn_eq _ _ _ _ fun h => by simp only [portRead, h]; rfl

/-- The OUT row of any key is the dispatch of its address on the active model (notes/assumptions/3.md). -/
theorem exec_outRow (tag : BitVec 4) (p v : Byte) (s : State) : exec (outRow tag p v) s = .next (portWrite p v s) := by
  unfold outRow
  split
  on_goal -1 => exact execOutUnmapped_eq tag p v s
  all_goals
    simp only [outRowM85, outRowM86, outRowM82, outRowM83, outRowM83P, outRowM83SE, outRowM84P, outRowM84SE]
    split
    on_goal -1 => exact execOutUnmapped_eq _ p v s
    all_goals exact outOn_eq _ _ _ _ _ fun h => by simp only [portWrite, h]; rfl

/-- Every instruction of the port interface is the dispatch of an IN or of an OUT on the active model. -/
theorem exec_of_iface_port {i : Instr} (hi : i.iface = .port) (s : State) :
    (∃ p, exec i s = .next (portRead p s)) ∨ (∃ p v, exec i s = .next (portWrite p v s)) := by
  rcases decodePort_encode hi with ⟨tag, p, rfl⟩ | ⟨tag, p, v, rfl⟩ | hdecode
  · exact .inl ⟨p, execInUnmapped_eq tag p s⟩
  · exact .inr ⟨p, v, execOutUnmapped_eq tag p v s⟩
  · rcases decodePort_ok hdecode with ⟨tag, p, rfl⟩ | ⟨tag, p, v, rfl⟩
    · exact .inl ⟨p, exec_inRow tag p s⟩
    · exact .inr ⟨p, v, exec_outRow tag p v s⟩

end Sys2Proof.Machine
end

section
/-! PROOFS of the state statements (10_state.md): what each operation can do to the state, said once, and what follows for
each piece of state. -/

namespace Sys2Proof.Machine

/-! ### Port transactions and LCD commands -/

/-- Is the interface one of the two at which a port transaction arrives: by its key, or as an LCD command byte
(30_encoding.md R75)? -/
def transacts : Iface → Bool
  | .port | .lcdcmd => true
  | .mem | .tick | .reset | .hostexit | .hostkeys => false

/-- What a port transaction or an LCD command can make of a state: it writes the windows, the LCD controller, the outputs
and the registers that a port of the model reaches, and nothing else. -/
inductive Transacted (s : State) : State → Prop
  | mk (page : Vector Page 4) (ports : Vector Byte 32) (lcd : Lcd) (r : Option Result) (e : Option Strobe)
      (hports : ∀ i : Fin 32, reachable s.model i = false → ports[i] = s.ports[i]) :
      Transacted s { s with page := page, ports := ports, lcd := lcd, result := r, strobe := e }

/-- No port reaches an index above 7 but that of PAGEC (10_state.md R19, R21). -/
theorem reachable_eq_false {m : Model} {i : Fin 32} (h8 : 8 ≤ i.val) (h10 : i.val ≠ 10) : reachable m i = false := by
  rw [Bool.eq_false_iff, ne_eq, reachable_iff]
  omega

/-- A register other than the one that is written keeps its byte. -/
theorem ports_set_ne (ports : Vector Byte 32) {i j : Fin 32} (v : Byte) (h : i ≠ j) :
    (ports.set i v)[j] = ports[j] :=
  Vector.getElem_set_ne i.isLt j.isLt fun h' => h (Fin.ext h')

/-- A stored byte changes no register that no port reaches. -/
theorem ports_set_reachable {s : State} {i : Fin 32} (v : Byte) (hi : reachable s.model i = true) (j : Fin 32)
    (hj : reachable s.model j = false) : (s.ports.set i v)[j] = s.ports[j] :=
  ports_set_ne _ _ fun h => by rw [h, hj] at hi; cases hi

/-- An operation that only answers. -/
theorem transacted_answer (s : State) (r : Option Result) (e : Option Strobe) : Transacted s (s.answer r e) :=
  .mk s.page s.ports s.lcd r e fun _ _ => rfl

/-- An operation that only replaces the LCD controller and answers. -/
theorem transacted_setLcd (s : State) (l : Lcd) (r : Option Result) (e : Option Strobe) :
    Transacted s ((s.setLcd l).answer r e) :=
  .mk s.page s.ports l r e fun _ _ => rfl

theorem portRead_transacted (p : Byte) (s : State) : Transacted s (portRead p s) := by
  rcases portRead_spec p s with ⟨b, h⟩ | ⟨_, _, h⟩
  · rw [h]
    exact transacted_answer s _ _
  · obtain ⟨l, b, hread, _⟩ := lcdRead_spec s
    rw [h, hread]
    exact transacted_setLcd s l _ _

theorem portWrite_transacted (p v : Byte) (s : State) : Transacted s (portWrite p v s) := by
  rcases portWrite_spec p v s with ⟨i, e, hi, _, h⟩ | ⟨i, hi, h⟩ | ⟨_, _, h⟩ | ⟨_, _, h⟩ | h <;> rw [h]
  · exact .mk s.page (s.ports.set i v) s.lcd none e (ports_set_reachable v hi)
  · exact .mk (mapPages s.model.cfg (s.ports.set i v)) (s.ports.set i v) s.lcd none none (ports_set_reachable v hi)
  · obtain ⟨l, e, hcommand, _⟩ := lcdCommand_spec v s
    rw [hcommand]
    exact transacted_setLcd s l none e
  · exact transacted_setLcd s _ none none
  · exact transacted_answer s none none

/-- An LCD command's row transacts on every model if the command changes the controller and the strobe alone. -/
theorem onLcdc_transacted {command : State → State} {s : State}
    (h : ∃ l e, command s = (s.setLcd l).answer none e) : ∃ t, onLcdc command s = .next t ∧ Transacted s t := by
  obtain ⟨l, e, h⟩ := h
  refine ⟨_, rfl, ?_⟩
  split
  · rw [h]
    exact transacted_setLcd s l none e
  · exact transacted_answer s none none

theorem exec_lcdcmd_transacted {i : Instr} (hi : i.iface = .lcdcmd) (s : State) :
    ∃ t, exec i s = .next t ∧ Transacted s t := by
  cases i
  case lcdSetcontrast | lcdSetrow | lcdSetscroll | lcdSetcol | lcdMode6 | lcdMode8 | lcdOff | lcdOn | lcdDirRowdec
    | lcdDirRowinc | lcdDirColdec | lcdDirColinc => exact onLcdc_transacted ⟨_, _, rfl⟩
  all_goals cases hi

/-- Every instruction of the port or the LCD command interface completes and transacts, on whatever model. -/
theorem exec_transacted {i : Instr} (hi : transacts i.iface = true) (s : State) :
    ∃ t, exec i s = .next t ∧ Transacted s t := by
  cases hiface : i.iface with
  | port =>
    rcases exec_of_iface_port hiface s with ⟨p, h⟩ | ⟨p, v, h⟩
    · exact ⟨_, h, portRead_transacted p s⟩
    · exact ⟨_, h, portWrite_transacted p v s⟩
  | lcdcmd => exact exec_lcdcmd_transacted hiface s
  | mem | tick | reset | hostexit | hostkeys => rw [hiface] at hi; cases hi

theorem transacted_of_exec {i : Instr} {s t : State} (hi : transacts i.iface = true)
    (h : exec i s = .next t) : Transacted s t := by
  obtain ⟨t', h', ht⟩ := exec_transacted hi s
  rw [h] at h'
  cases h'
  exact ht

/-! ### The tick -/

theorem refreshFires_iff (s : State) : refreshFires s = true ↔ Config.refreshThreshold ≤ s.uCount + s.uperiod := by
  rw [refreshFires, refreshSum, decide_eq_true_eq]

theorem tick_uCount (b : Bool) (s : State) :
    (tick b s).uCount = if refreshFires s then refreshSum s - Config.refreshThreshold else refreshSum s := rfl

theorem tick_exitNow (b : Bool) (s : State) : (tick b s).exitNow = tickExit b s := rfl

theorem tick_ports (b : Bool) (s : State) : (tick b s).ports = s.ports.set 8 (tickStatus s) := rfl

theorem tick_result (b : Bool) (s : State) :
    (tick b s).result = some (.tick (tickResult (tickExit b s) (tickStatus s))) := rfl

/-- Step 1 of a tick can only set the flag (43_tick_sequencer.md R181). -/
theorem tickExit_of_exitNow {s : State} (b : Bool) (h : s.exitNow = true) : tickExit b s = true := by
  rw [tickExit, h, Bool.true_or]

/-! ### Every operation -/

/-- What an operation can make of the state that it is presented to. -/
inductive Effect (s : State) : Request → State → Prop
  | memrd (a : Addr) : Effect s (.memrd a) (s.answer (some (.byte (s.peek a))) none)
  | memwrRom (a : Addr) (v : Byte) (hrom : (s.pageOf a).arena = .rom) : Effect s (.memwr a v) (s.answer none none)
  | memwrRam (a : Addr) (v : Byte) (hram : (s.pageOf a).arena = .ram) (hin : s.inArena a = true) :
      Effect s (.memwr a v) ((s.writeRam (s.arenaIndex a) v).answer none none)
  | transacted {op : Request} {t : State} (hop : transacts op.iface = true) (ht : Transacted s t) :
      Effect s op t
  | tick (h : Bool) : Effect s (.tick h) (tick h s)
  | reset (k : Byte) (m : Model) (hindex : Model.ofIndex k.toNat = some m) (hfits : s.imageFits m = true) :
      Effect s (.reset k) ((s.resetTo m).answer none none)
  | resetRefused (k : Byte) : Effect s (.reset k) (s.answer (some .refused) none)
  | hostexit : Effect s .hostexit (({ s with exitNow := true } : State).answer none none)
  | hostkeys (k : Vector Byte 8) (o : Bool) :
      Effect s (.hostkeys k o) (({ s with keyRow := k, onKey := o } : State).answer none none)

/-- An operation that goes on has one of its effects. -/
theorem effect_of_exec {m : Model} {op : Request} {s t : State} (h : exec (op.instr m) s = .next t) :
    Effect s op t := by
  cases op with
  | memrd a =>
    rw [execMemrd_next h]
    exact .memrd a
  | memwr a v =>
    rcases execMemwr_next h with ⟨hrom, rfl⟩ | ⟨hram, hin, rfl⟩
    · exact .memwrRom a v hrom
    · exact .memwrRam a v hram hin
  | input | output | lcdcmd => exact .transacted rfl (transacted_of_exec (by rw [Request.iface_instr]; rfl) h)
  | tick b =>
    cases h
    exact .tick b
  | reset k =>
    rw [Request.instr, exec_reset] at h
    rcases execReset_next k s with ⟨m, hindex, hfits, h'⟩ | h' <;> rw [h'] at h <;> cases h
    · exact .reset k m hindex hfits
    · exact .resetRefused k
  | hostexit =>
    cases h
    exact .hostexit
  | hostkeys k o =>
    cases h
    exact .hostkeys k o

/-- A step with an operation pending has one of that operation's effects. -/
theorem effect_of_step {s t : State} {e : Pending} {rest : List Pending} (hs : s.pending = e :: rest)
    (h : step s = .next t) : Effect (s.present e rest) e.op t :=
  effect_of_exec (step_of_pending_cons hs ▸ h)

/-! ### What each operation keeps -/

section
variable {s t : State} {op : Request}

/-- No operation changes the operations still to come, the level on UPERIOD or the open parameters
(00_scope.md R6, R8). -/
theorem Effect.keeps_parameters (h : Effect s op t) :
    t.pending = s.pending ∧ t.uperiod = s.uperiod ∧
    t.startupTicks = s.startupTicks ∧ t.linkIdle = s.linkIdle ∧ t.romImages = s.romImages := by
  cases h with
  | transacted _ ht => cases ht; exact ⟨rfl, rfl, rfl, rfl, rfl⟩
  | _ => exact ⟨rfl, rfl, rfl, rfl, rfl⟩

theorem Effect.keeps_model_rom (h : Effect s op t) (hreset : ∀ m, op ≠ .reset m) :
    t.model = s.model ∧ t.rom = s.rom := by
  cases h with
  | reset k | resetRefused k => exact absurd rfl (hreset k)
  | transacted _ ht => cases ht; exact ⟨rfl, rfl⟩
  | _ => exact ⟨rfl, rfl⟩

theorem Effect.keeps_ram (h : Effect s op t) (hreset : ∀ m, op ≠ .reset m) (hmemwr : ∀ a v, op ≠ .memwr a v) :
    t.ram = s.ram := by
  cases h with
  | reset k | resetRefused k => exact absurd rfl (hreset k)
  | memwrRam a v => exact absurd rfl (hmemwr a v)
  | transacted _ ht => cases ht; rfl
  | _ => rfl

theorem Effect.keeps_keys (h : Effect s op t) (hkeys : ∀ k o, op ≠ .hostkeys k o) :
    t.keyRow = s.keyRow ∧ t.onKey = s.onKey := by
  cases h with
  | hostkeys k o => exact absurd rfl (hkeys k o)
  | transacted _ ht => cases ht; exact ⟨rfl, rfl⟩
  | _ => exact ⟨rfl, rfl⟩

/-- Registers that no port reaches: RESET writes them all, TICK the one of STATUS. -/
theorem Effect.keeps_port (h : Effect s op t) (hreset : ∀ m, op ≠ .reset m) {i : Fin 32}
    (hi : reachable s.model i = false) (htick : i ≠ 8 ∨ ∀ b, op ≠ .tick b) : t.ports[i] = s.ports[i] := by
  cases h with
  | reset k | resetRefused k => exact absurd rfl (hreset k)
  | tick b =>
    have h8 : i ≠ 8 := htick.resolve_right fun hb => hb b rfl
    rw [tick_ports]
    exact ports_set_ne s.ports (tickStatus s) h8.symm
  | transacted _ ht =>
    obtain ⟨_, _, _, _, _, hports⟩ := ht
    exact hports i hi
  | _ => rfl

theorem Effect.keeps_counters (h : Effect s op t) (hreset : ∀ m, op ≠ .reset m) (htick : ∀ b, op ≠ .tick b) :
    t.startupOn = s.startupOn ∧ t.uCount = s.uCount := by
  cases h with
  | reset k | resetRefused k => exact absurd rfl (hreset k)
  | tick b => exact absurd rfl (htick b)
  | transacted _ ht => cases ht; exact ⟨rfl, rfl⟩
  | _ => exact ⟨rfl, rfl⟩

theorem Effect.keeps_exitNow (h : Effect s op t) (hreset : ∀ m, op ≠ .reset m) (htick : ∀ b, op ≠ .tick b)
    (hexit : op ≠ .hostexit) : t.exitNow = s.exitNow := by
  cases h with
  | reset k | resetRefused k => exact absurd rfl (hreset k)
  | tick b => exact absurd rfl (htick b)
  | hostexit => exact absurd rfl hexit
  | transacted _ ht => cases ht; rfl
  | _ => rfl

/-! ### The refresh counter -/

/-- A tick carries at most one threshold, so the remainder is below it (43_tick_sequencer.md R187). -/
theorem tick_uCount_lt (b : Bool) (hlevel : s.uperiod ≤ Config.refreshThreshold)
    (hcount : s.uCount < Config.refreshThreshold) : (tick b s).uCount < Config.refreshThreshold := by
  have hfires := refreshFires_iff s
  rw [tick_uCount, refreshSum]
  split
  · omega
  · rename_i hnot
    rw [hfires] at hnot
    omega

theorem State.RefreshBounded.present {e : Pending} {rest : List Pending} (h : s.RefreshBounded)
    (hs : s.pending = e :: rest) : (s.present e rest).RefreshBounded where
  level := by
    cases hu : e.uperiod with
    | none => simpa [hu] using h.level
    | some u => simpa [hu] using h.coming e (hs ▸ .head _) u hu
  coming e' he' := h.coming e' (hs ▸ .tail _ he')
  count := h.count

theorem Effect.keeps_refreshBounded (h : Effect s op t) (hb : s.RefreshBounded) : t.RefreshBounded := by
  obtain ⟨hpending, huperiod, -⟩ := h.keeps_parameters
  refine ⟨huperiod ▸ hb.level, hpending ▸ hb.coming, ?_⟩
  cases h with
  | tick b => exact tick_uCount_lt b hb.level hb.count
  | reset => exact Nat.zero_lt_succ _
  | transacted _ ht => cases ht; exact hb.count
  | _ => exact hb.count

end

/-! ### The state after reset -/

theorem resetPorts_nine (v : Byte) : (resetPorts v)[9] = v := Vector.getElem_set_self _

theorem resetPorts_ne {i : Fin 32} (v : Byte) (hi : i ≠ 9) : (resetPorts v)[i] = 0 := by
  rw [resetPorts, show (Vector.set _ 9 v)[i] = (Vector.replicate 32 (0 : Byte))[i] from ports_set_ne _ v hi.symm]
  exact Vector.getElem_replicate _

/-- The reset of the block to a model meets the invariant, from any state with images in canonical form and the model's
of its size. -/
theorem resetTo_inv {s : State} {m : Model} (hwf : ∀ m, Memory.wf (s.imageOf m).bytes = true)
    (hfits : s.imageFits m = true) : (s.resetTo m).Inv where
  windows := rfl
  ramWf := rfl
  ramBound := fun _ h => by cases h
  imagesWf := hwf
  romIsImage := rfl
  imageFits := hfits
  statusHigh := by
    have h8 : (s.resetTo m).ports[8] = 0 := resetPorts_ne (i := 8) s.linkIdle (by decide)
    rw [h8]
    rfl
  link := resetPorts_nine s.linkIdle
  pageC := fun _ => resetPorts_ne (i := 10) s.linkIdle (by decide)
  port5 := fun _ => resetPorts_ne (i := 5) s.linkIdle (by decide)
  reserved := fun i hi => resetPorts_ne s.linkIdle (by rintro rfl; exact absurd hi (by decide))
  lcdStatus := by rw [State.resetTo_lcd]; rfl
  lcdPadding := by rw [State.resetTo_lcd]; decide
  lcdCol := by rw [State.resetTo_lcd]; decide
  lcdAbsent := fun _ => rfl
  startup := Nat.le_refl _

end Sys2Proof.Machine

namespace Sys2Proof.Proofs

open Sys2Proof Sys2Proof.Machine

/-- Settles O46: no operation but RESET clears the flag, and a tick that finds it set answers QUIT before anything else. -/
theorem quitIsStickyUntilReset : Obligations.QuitIsStickyUntilReset := by
  intro i s t hexit h hreset
  cases i
  case reset m => exact absurd rfl (hreset m)
  case tick b =>
    cases h
    have hstill : tickExit b s = true := tickExit_of_exitNow b hexit
    exact ⟨(tick_exitNow b s).trans hstill, fun _ _ => by rw [tick_result, hstill]; rfl⟩
  case memrd a =>
    rw [execMemrd_next h]
    exact ⟨hexit, nofun⟩
  case memwr a v =>
    rcases execMemwr_next h with ⟨_, rfl⟩ | ⟨_, _, rfl⟩ <;> exact ⟨hexit, nofun⟩
  case hostexit =>
    cases h
    exact ⟨rfl, nofun⟩
  case hostkeys k o =>
    cases h
    exact ⟨hexit, nofun⟩
  all_goals
    cases transacted_of_exec rfl h
    exact ⟨hexit, nofun⟩

/-- Settles O56: presenting the operation keeps the bound, and so does each of its effects. -/
theorem stepKeepsRefreshBounded : Obligations.StepKeepsRefreshBounded := by
  intro s t hb h
  cases hs : s.pending with
  | nil =>
    rw [step_of_pending_nil hs] at h
    cases h
    exact hb
  | cons e rest => exact (effect_of_step hs h).keeps_refreshBounded (hb.present hs)

/-- Settles O57, from what the pending operation's effect keeps. -/
theorem onlyResetChangesModelAndRom : Obligations.OnlyResetChangesModelAndRom := by
  intro s t e rest hs h
  have heffect := effect_of_step hs h
  obtain ⟨-, -, hticks, hlink, himages⟩ := heffect.keeps_parameters
  refine ⟨hticks, hlink, himages, fun hreset => ?_⟩
  obtain ⟨hmodel, hrom⟩ := heffect.keeps_model_rom hreset
  exact ⟨hmodel, hrom, heffect.keeps_ram hreset⟩

/-- Settles O58: of the registers named, no port reaches any. -/
theorem specialRegistersHaveTheirWriters : Obligations.SpecialRegistersHaveTheirWriters := by
  intro s t e rest hs h
  have heffect := effect_of_step hs h
  refine ⟨heffect.keeps_keys, fun hreset => ⟨?_, fun i hi => ?_, fun htick => ⟨?_, ?_, ?_, ?_⟩⟩⟩
  · exact heffect.keeps_port (i := 9) hreset (reachable_eq_false (by decide) (by decide)) (.inl (by decide))
  · have h8 : i ≠ 8 := by rintro rfl; exact absurd hi (by decide)
    exact heffect.keeps_port hreset (reachable_eq_false (by omega) (by omega)) (.inl h8)
  · exact heffect.keeps_port (i := 8) hreset (reachable_eq_false (by decide) (by decide)) (.inr htick)
  · exact (heffect.keeps_counters hreset htick).1
  · exact (heffect.keeps_counters hreset htick).2
  · exact heffect.keeps_exitNow hreset htick

/-- Settles O53: the state is that of a reset to M85, and each of its images has its model's size and lists no byte. -/
theorem invAtReset : Obligations.InvAtReset := by
  have hreset : State.reset = State.reset.resetTo .m85 := rfl
  have himages : ∀ m, Memory.wf (State.reset.imageOf m).bytes = true := fun m => by cases m <;> rfl
  rw [Obligations.InvAtReset, hreset]
  exact resetTo_inv himages rfl

end Sys2Proof.Proofs
end

section
/-! PROOFS of the memory statements (20_memory.md): what a memory access does where the address has a byte, and why every
address has one. -/

namespace Sys2Proof.Machine

/-! ### The memory port -/

theorem State.inArena_iff (s : State) (a : Addr) :
    s.inArena a = true ↔ s.arenaIndex a < arenaSize s.model.cfg (s.pageOf a).arena := by
  rw [State.inArena, decide_eq_true_eq]

/-- R44: where the address has a byte, a read returns it. -/
theorem execMemrd_of_inArena {a : Addr} {s : State} (hin : s.inArena a = true) :
    execMemrd a s = .next (s.answer (some (.byte (s.peek a))) none) := by
  rw [execMemrd, if_pos hin]

/-- R45: a write through a ROM window is discarded. -/
theorem execMemwr_of_rom {a : Addr} {s : State} (v : Byte) (hrom : (s.pageOf a).arena = .rom) :
    execMemwr a v s = .next (s.answer none none) := by
  rw [execMemwr, hrom]

/-- R45: a write through a RAM window reaches the byte that the address shows. -/
theorem execMemwr_of_ram {a : Addr} {s : State} (v : Byte) (hram : (s.pageOf a).arena = .ram)
    (hin : s.inArena a = true) :
    execMemwr a v s = .next ((s.writeRam (s.arenaIndex a) v).answer none none) := by
  rw [execMemwr, hram]
  exact if_pos hin

/-- The outputs are no part of what an address shows. -/
@[simp] theorem State.answer_peek (s : State) (r : Option Result) (e : Option Strobe) (b : Addr) :
    (s.answer r e).peek b = s.peek b := rfl

/-! ### The windows of the mapper -/

/-- A window register that the mapper can compute: `rom(n)` or `ram(n)` for some page `n` (40_mapper.md R83). -/
def Page.Mapped (c : Cfg) (g : Page) : Prop := ∃ n, g = romPage c n ∨ g = ramPage c n

theorem romPage_mapped (c : Cfg) (n : Nat) : (romPage c n).Mapped c := ⟨n, .inl rfl⟩

theorem ramPage_mapped (c : Cfg) (n : Nat) : (ramPage c n).Mapped c := ⟨n, .inr rfl⟩

/-- A choice between two pages of the mapper is a page of the mapper. -/
theorem ite_mapped {c : Cfg} {g h : Page} {p : Prop} [Decidable p] (hg : g.Mapped c) (hh : h.Mapped c) :
    (if p then g else h).Mapped c := by
  split
  · exact hg
  · exact hh

theorem selB_mapped (c : Cfg) (v : Byte) : (selB c v).Mapped c :=
  ite_mapped (ramPage_mapped c _) (romPage_mapped c _)

theorem selD_mapped (c : Cfg) (b : Nat) (v : Byte) : (selD c b v).Mapped c :=
  ite_mapped (ramPage_mapped c _) (romPage_mapped c _)

/-- What holds of each of four windows holds of every window of their vector. -/
theorem forall_mem_windows {P : Page → Prop} {g₀ g₁ g₂ g₃ : Page} (h₀ : P g₀) (h₁ : P g₁) (h₂ : P g₂) (h₃ : P g₃) :
    ∀ g ∈ #v[g₀, g₁, g₂, g₃], P g := by
  simp [h₀, h₁, h₂, h₃]

/-- Every window of `Map(cfg, Ports)` shows a page, in every family and for every register file. -/
theorem mapPages_mapped (c : Cfg) (ports : Vector Byte 32) : ∀ g ∈ mapPages c ports, g.Mapped c := by
  have rom := romPage_mapped c
  have ram := ramPage_mapped c
  unfold mapPages
  cases c.family with
  | A i => exact forall_mem_windows (rom _) (rom _) (ram _) (ram _)
  | B => exact forall_mem_windows (rom _) (selB_mapped c _) (selB_mapped c _) (ram _)
  | C =>
    exact forall_mem_windows (rom _) (ite_mapped (ram _) (rom _))
      (ite_mapped (ram _) (ite_mapped (rom _) (rom _))) (ram _)
  | D b =>
    simp only [mapD]
    split
    · exact forall_mem_windows (rom _) (selD_mapped c b _) (selD_mapped c b _) (selD_mapped c b _)
    · exact forall_mem_windows (rom _) (selD_mapped c b _) (selD_mapped c b _) (ram _)

/-- A page of an arena of a power of two bytes is a whole window of it: the offset wraps inside the arena (R83). -/
theorem pageOff_add_le (page : Nat) {j : Nat} (hj : 14 ≤ j) : pageOff page (2 ^ j) + 0x4000 ≤ 2 ^ j := by
  have hsize : 2 ^ j = 2 ^ (j - 14) * 0x4000 := by
    rw [show (0x4000 : Nat) = 2 ^ 14 by decide, ← Nat.pow_add, Nat.sub_add_cancel hj]
  have hwrap : page % 2 ^ (j - 14) < 2 ^ (j - 14) := Nat.mod_lt _ (Nat.two_pow_pos _)
  rw [pageOff_pow page j hj]
  omega

/-- A window of a model ends inside its arena. -/
theorem Page.Mapped.off_add_le {m : Model} {g : Page} (h : g.Mapped m.cfg) :
    g.off + 0x4000 ≤ arenaSize m.cfg g.arena := by
  obtain ⟨j, k, hj, hk, hrom, hram⟩ := arena_pow m
  obtain ⟨n, rfl | rfl⟩ := h
  · show pageOff n m.cfg.romSize + 0x4000 ≤ m.cfg.romSize
    rw [hrom]
    exact pageOff_add_le n (by omega)
  · show pageOff n m.cfg.ramSize + 0x4000 ≤ m.cfg.ramSize
    rw [hram]
    exact pageOff_add_le n (by omega)

theorem offsetOf_lt (a : Addr) : offsetOf a < 0x4000 := (a.extractLsb' 0 14).isLt

/-- R43: under the invariant the window register is one of the mapper's, so no access leaves its arena. -/
theorem State.Inv.inArena {s : State} (h : s.Inv) (a : Addr) : s.inArena a = true := by
  have hmem : s.pageOf a ∈ mapPages s.model.cfg s.ports := h.windows ▸ Vector.getElem_mem _
  have hwindow := (mapPages_mapped _ _ _ hmem).off_add_le
  have hoffset := offsetOf_lt a
  rw [State.inArena_iff, State.arenaIndex]
  omega

end Sys2Proof.Machine

namespace Sys2Proof.Proofs

open Sys2Proof Sys2Proof.Machine

/-- Settles O37: the window and the index of the statement are those of the model, whose byte `peek` gives. -/
theorem memrdReturnsTheWindowsByte : Obligations.MemrdReturnsTheWindowsByte := by
  rintro s a _ _ rfl rfl hin
  exact execMemrd_of_inArena ((s.inArena_iff a).mpr hin)

/-- Settles O38: what RAM and the addresses show after the write are `read_write` and `peek_writeRam`. -/
theorem memwrWritesOneRamByteOrNothing : Obligations.MemwrWritesOneRamByteOrNothing := by
  rintro s a v _ _ rfl rfl
  refine ⟨execMemwr_of_rom v, fun (hram : (s.pageOf a).arena = .ram) hlt => ?_⟩
  have hin : s.inArena a = true := by
    rw [State.inArena_iff, hram]
    exact hlt
  refine ⟨_, execMemwr_of_ram v hram hin, rfl, fun j => ?_, fun b => ?_⟩
  · exact Memory.read_write s.ram (s.arenaIndex a) j v
  · rw [State.answer_peek]
    exact peek_writeRam s b (s.arenaIndex a) v

/-- Settles O39: under the invariant the address has a byte, and a read where it has one returns it. -/
theorem everyAddressIsInItsArena : Obligations.EveryAddressIsInItsArena := by
  intro s a hinv
  have hin := hinv.inArena a
  exact ⟨(s.inArena_iff a).mp hin, execMemrd_of_inArena hin⟩

end Sys2Proof.Proofs
end

section
/-! PROOFS of the encoding statements (30_encoding.md): which keys have a default row, that decoding and encoding undo each
other at every interface, and the LCD command byte as an OUT to port 0x10. -/

namespace Sys2Proof

/-! ### The rows of a key -/

/-- The addresses that every model maps (20_memory.md R54), one by one as the key rows list them. -/
theorem port_le_seven_iff (p : Byte) :
    p ≤ 7 ↔ p = 0 ∨ p = 1 ∨ p = 2 ∨ p = 3 ∨ p = 4 ∨ p = 5 ∨ p = 6 ∨ p = 7 := by
  bv_omega

/-- The tags of the models (00_scope.md R7), one by one as the key rows list them. -/
theorem tag_le_seven_iff (tag : BitVec 4) :
    tag ≤ 7 ↔ tag = 0 ∨ tag = 1 ∨ tag = 2 ∨ tag = 3 ∨ tag = 4 ∨ tag = 5 ∨ tag = 6 ∨ tag = 7 := by
  bv_omega

/-- The unmapped keys: no model has the tag, or the address is none of its model's ports. -/
theorem portMapped_eq_false_iff (tag : BitVec 4) (p : Byte) :
    portMapped tag p = false ↔
      ¬ tag ≤ 7 ∨ (¬ p ≤ 7 ∧ ¬ (2 ≤ tag ∧ (p = 0x10 ∨ p = 0x11))) := by
  simp only [portMapped, Bool.and_eq_false_iff, Bool.or_eq_false_iff, decide_eq_false_iff_not, beq_eq_false_iff_ne]
  tauto

/-- The IN row of a key is the default row where the key's model does not map the address, and a well-formed full-key row
where it does. -/
theorem inRow_cases (tag : BitVec 4) (p : Byte) :
    (portMapped tag p = false ∧ inRow tag p = .inUnmapped tag p) ∨
    (portMapped tag p = true ∧ (inRow tag p).wellFormed = true ∧ inRow tag p ≠ .inUnmapped tag p) := by
  unfold inRow
  split
  on_goal -1 => exact .inl ⟨by rw [portMapped_eq_false_iff, tag_le_seven_iff]; tauto, rfl⟩
  all_goals
    simp only [inRowM85, inRowM86, inRowM82, inRowM83, inRowM83P, inRowM83SE, inRowM84P, inRowM84SE]
    split
    on_goal -1 => exact .inl ⟨by rw [portMapped_eq_false_iff, port_le_seven_iff]; simp_all, rfl⟩
    all_goals exact .inr ⟨rfl, rfl, nofun⟩

/-- The same for an OUT key and its data. -/
theorem outRow_cases (tag : BitVec 4) (p v : Byte) :
    (portMapped tag p = false ∧ outRow tag p v = .outUnmapped tag p v) ∨
    (portMapped tag p = true ∧ (outRow tag p v).wellFormed = true ∧ outRow tag p v ≠ .outUnmapped tag p v) := by
  unfold outRow
  split
  on_goal -1 => exact .inl ⟨by rw [portMapped_eq_false_iff, tag_le_seven_iff]; tauto, rfl⟩
  all_goals
    simp only [outRowM85, outRowM86, outRowM82, outRowM83, outRowM83P, outRowM83SE, outRowM84P, outRowM84SE]
    split
    on_goal -1 => exact .inl ⟨by rw [portMapped_eq_false_iff, port_le_seven_iff]; simp_all, rfl⟩
    all_goals exact .inr ⟨rfl, rfl, nofun⟩

theorem inRow_eq_inUnmapped_iff (tag : BitVec 4) (p : Byte) :
    inRow tag p = .inUnmapped tag p ↔ portMapped tag p = false := by
  rcases inRow_cases tag p with ⟨hunmapped, hrow⟩ | ⟨hmapped, _, hrow⟩
  · exact iff_of_true hrow hunmapped
  · exact iff_of_false hrow (by simp [hmapped])

theorem outRow_eq_outUnmapped_iff (tag : BitVec 4) (p v : Byte) :
    outRow tag p v = .outUnmapped tag p v ↔ portMapped tag p = false := by
  rcases outRow_cases tag p v with ⟨hunmapped, hrow⟩ | ⟨hmapped, _, hrow⟩
  · exact iff_of_true hrow hunmapped
  · exact iff_of_false hrow (by simp [hmapped])

theorem wellFormed_inUnmapped (tag : BitVec 4) (p : Byte) :
    (Instr.inUnmapped tag p).wellFormed = true ↔ portMapped tag p = false := by
  simp only [Instr.wellFormed, Bool.not_eq_true']

theorem wellFormed_outUnmapped (tag : BitVec 4) (p v : Byte) :
    (Instr.outUnmapped tag p v).wellFormed = true ↔ portMapped tag p = false := by
  simp only [Instr.wellFormed, Bool.not_eq_true']

theorem wellFormed_inRow (tag : BitVec 4) (p : Byte) : (inRow tag p).wellFormed = true := by
  rcases inRow_cases tag p with ⟨hunmapped, hrow⟩ | ⟨_, hwf, _⟩
  · rw [hrow, wellFormed_inUnmapped, hunmapped]
  · exact hwf

theorem wellFormed_outRow (tag : BitVec 4) (p v : Byte) : (outRow tag p v).wellFormed = true := by
  rcases outRow_cases tag p v with ⟨hunmapped, hrow⟩ | ⟨_, hwf, _⟩
  · rw [hrow, wellFormed_outUnmapped, hunmapped]
  · exact hwf

/-- A request's instruction is well-formed, unless it is a RESET to an index that no model has (30_encoding.md R69). -/
theorem Request.wellFormed_instr (m : Model) (op : Request) (hreset : ∀ k, op = .reset k → k.toNat < 8) :
    (op.instr m).wellFormed = true := by
  cases op with
  | input p => exact wellFormed_inRow _ p
  | output p v => exact wellFormed_outRow _ p v
  | lcdcmd v => exact (encode_lcdRow v).2.2
  | reset k => exact decide_eq_true (hreset k rfl)
  | memrd | memwr | tick | hostexit | hostkeys => rfl

/-! ### Decoding what was encoded -/

/-- A well-formed default row is the row of its key; every other port row is the row that its own bytes decode to. -/
theorem decode_encode_port {i : Instr} (hi : i.iface = .port) (hwf : i.wellFormed = true) (rest : List Byte) :
    decode .port (encode i ++ rest) = .ok (i, rest) := by
  rcases decodePort_encode hi with ⟨tag, p, rfl⟩ | ⟨tag, p, v, rfl⟩ | hdecode
  · have hrow := (inRow_eq_inUnmapped_iff tag p).mpr ((wellFormed_inUnmapped tag p).mp hwf)
    rw [Machine.encode_inUnmapped, decode_inKey, hrow]
  · have hrow := (outRow_eq_outUnmapped_iff tag p v).mpr ((wellFormed_outUnmapped tag p v).mp hwf)
    rw [Machine.encode_outUnmapped, decode_outKey, hrow]
  · rcases decodePort_ok hdecode with ⟨tag, p, rfl⟩ | ⟨tag, p, v, rfl⟩
    · rw [(encode_inRow tag p).1, decode_inKey]
    · rw [(encode_outRow tag p v).1, decode_outKey]

/-- An LCD command is the row of its own byte: the format bits select it (30_encoding.md R65, R66) and the fields are its
operands (R67, R68). -/
theorem lcdRow_of_encode {i : Instr} (hi : i.iface = .lcdcmd) : ∃ v, encode i = [v] ∧ lcdRow v = i := by
  cases i
  case lcdSetcontrast c | lcdSetrow c | lcdSetscroll c => exact ⟨_, rfl, by revert c; decide +kernel⟩
  case lcdSetcol x y => exact ⟨_, rfl, by revert x y; decide +kernel⟩
  case lcdMode6 x | lcdMode8 x | lcdOff x | lcdOn x | lcdDirRowdec x | lcdDirRowinc x | lcdDirColdec x
    | lcdDirColinc x => exact ⟨_, rfl, by revert x; decide +kernel⟩
  all_goals cases hi

theorem decode_encode_lcdcmd {i : Instr} (hi : i.iface = .lcdcmd) (rest : List Byte) :
    decode .lcdcmd (encode i ++ rest) = .ok (i, rest) := by
  obtain ⟨v, hbytes, hrow⟩ := lcdRow_of_encode hi
  rw [hbytes, ← hrow]
  rfl

theorem decode_encode_tick (h : Bool) (rest : List Byte) :
    decode .tick (encode (.tick h) ++ rest) = .ok (.tick h, rest) := by
  obtain ⟨hspare, hbit⟩ := bitByte_bit h
  simp only [decode, Machine.encode_tick, List.cons_append, List.nil_append, decodeTick, hspare, hbit]
  rfl

theorem decode_encode_hostkeys (k : Vector Byte 8) (o : Bool) (rest : List Byte) :
    decode .hostkeys (encode (.hostkeys k o) ++ rest) = .ok (.hostkeys k o, rest) := by
  obtain ⟨hspare, hbit⟩ := bitByte_bit o
  simp only [decode, Machine.encode_hostkeys, keys_toList, List.cons_append, List.nil_append, decodeKeys, hspare, hbit,
    keys_of_bytes]
  rfl

theorem decode_encode_memrd (a : Addr) (rest : List Byte) :
    decode .mem (encode (.memrd a) ++ rest) = .ok (.memrd a, rest) := by
  simp [decode, decodeMem, Machine.encode_memrd, addr_bytes]

theorem decode_encode_memwr (a : Addr) (v : Byte) (rest : List Byte) :
    decode .mem (encode (.memwr a v) ++ rest) = .ok (.memwr a v, rest) := by
  simp [decode, decodeMem, Machine.encode_memwr, addr_bytes]

/-- Decoding undoes encoding: each operation of its own format, then the LCD commands and the port rows together. -/
theorem decode_encode {i : Instr} (hwf : i.wellFormed = true) (rest : List Byte) :
    decode i.iface (encode i ++ rest) = .ok (i, rest) := by
  cases i
  case memrd a => exact decode_encode_memrd a rest
  case memwr a v => exact decode_encode_memwr a v rest
  case tick h => exact decode_encode_tick h rest
  case hostkeys k o => exact decode_encode_hostkeys k o rest
  case reset | hostexit => rfl
  case lcdSetcontrast | lcdSetrow | lcdSetscroll | lcdSetcol | lcdMode6 | lcdMode8 | lcdOff | lcdOn | lcdDirRowdec
    | lcdDirRowinc | lcdDirColdec | lcdDirColinc => exact decode_encode_lcdcmd rfl rest
  all_goals exact decode_encode_port rfl hwf rest

/-! ### Encoding what was decoded -/

/-- A key's high byte with no spare bit set is `dir` over the tag (30_encoding.md R76). -/
theorem keyByte_of_fields (hi : Byte) :
    hi.extractLsb' 5 3 = 0 → (if hi.getLsbD 4 then 1#4 else 0#4) ++ hi.extractLsb' 0 4 = hi := by
  revert hi; decide +kernel

theorem encode_of_decodePort {bs rest : List Byte} {i : Instr} (h : decodePort bs = .ok (i, rest)) :
    i.iface = .port ∧ encode i ++ rest = bs := by
  unfold decodePort at h
  split at h
  case h_2 => cases h
  case h_1 lo hi tail =>
    split at h
    · cases h
    have hkey := keyByte_of_fields hi (not_not.mp ‹_›)
    split at h
    case isFalse hdir =>
      cases h
      obtain ⟨hencode, hiface⟩ := encode_inRow (hi.extractLsb' 0 4) lo
      rw [if_neg hdir] at hkey
      exact ⟨hiface, by rw [hencode, inKey, hkey]; rfl⟩
    case isTrue hdir =>
      split at h <;> cases h
      obtain ⟨hencode, hiface⟩ := encode_outRow (hi.extractLsb' 0 4) lo _
      rw [if_pos hdir] at hkey
      exact ⟨hiface, by rw [hencode, outKey, hkey]; rfl⟩

theorem encode_of_decodeMem {bs rest : List Byte} {i : Instr} (h : decodeMem bs = .ok (i, rest)) :
    i.iface = .mem ∧ encode i ++ rest = bs := by
  unfold decodeMem at h
  split at h
  case h_2 => cases h
  case h_1 dir lo hi tail =>
    obtain ⟨hlo, hhi⟩ := addr_of_bytes lo hi
    split at h
    · cases h
    have hbyte := bitByte_of_bit dir (not_not.mp ‹_›)
    split at h
    case isFalse hdir =>
      cases h
      rw [eq_false_of_ne_true hdir] at hbyte
      exact ⟨rfl, by rw [Machine.encode_memrd, hlo, hhi, ← hbyte]; rfl⟩
    case isTrue hdir =>
      split at h <;> cases h
      rw [hdir] at hbyte
      exact ⟨rfl, by rw [Machine.encode_memwr, hlo, hhi, ← hbyte]; rfl⟩

theorem encode_of_decodeTick {bs rest : List Byte} {i : Instr} (h : decodeTick bs = .ok (i, rest)) :
    i.iface = .tick ∧ encode i ++ rest = bs := by
  unfold decodeTick at h
  split at h
  · split at h <;> cases h
    exact ⟨rfl, by rw [Machine.encode_tick, bitByte_of_bit _ (not_not.mp ‹_›)]; rfl⟩
  · cases h

theorem encode_of_decodeKeys {bs rest : List Byte} {i : Instr} (h : decodeKeys bs = .ok (i, rest)) :
    i.iface = .hostkeys ∧ encode i ++ rest = bs := by
  unfold decodeKeys at h
  split at h
  · split at h <;> cases h
    exact ⟨rfl, by rw [Machine.encode_hostkeys, bitByte_of_bit _ (not_not.mp ‹_›)]; rfl⟩
  · cases h

/-- Encoding undoes decoding, interface by interface. -/
theorem encode_of_decode {f : Iface} {bs rest : List Byte} {i : Instr} (h : decode f bs = .ok (i, rest)) :
    i.iface = f ∧ encode i ++ rest = bs := by
  cases f with
  | mem => exact encode_of_decodeMem h
  | port => exact encode_of_decodePort h
  | tick => exact encode_of_decodeTick h
  | hostkeys => exact encode_of_decodeKeys h
  | hostexit => cases h; exact ⟨rfl, rfl⟩
  | reset =>
    cases bs <;> cases h
    exact ⟨rfl, rfl⟩
  | lcdcmd =>
    cases bs <;> cases h
    obtain ⟨hencode, hiface, _⟩ := encode_lcdRow _
    exact ⟨hiface, by rw [hencode]; rfl⟩

end Sys2Proof

namespace Sys2Proof.Machine

/-! ### The LCD command byte -/

/-- Port 0x10 is the controller's command port on the models that have one, and unmapped on the others
(42_lcd.md R140, 41_port_dispatch.md R117). -/
theorem portWrite_lcdPort (v : Byte) (s : State) :
    portWrite 0x10 v s = if s.model.cfg.hasLcdc then lcdCommand v s else writeUnmapped s := by
  unfold portWrite
  cases s.model <;> rfl

/-- The ignored bit and the column field of LCD.SETCOL are the low five bits of its byte (30_encoding.md R67, R68). -/
theorem setcol_fields (v : Byte) : v.extractLsb' 4 1 ++ v.extractLsb' 0 4 = v.extractLsb' 0 5 := by
  revert v; decide +kernel

/-- The eight values of the opcode field (30_encoding.md R66). -/
theorem opcode_cases (o : BitVec 3) : o = 0 ∨ o = 1 ∨ o = 2 ∨ o = 3 ∨ o = 4 ∨ o = 5 ∨ o = 6 ∨ o = 7 := by
  bv_omega

/-- The row of a command byte is the command that the controller makes of the byte: both test the same five formats. -/
theorem exec_lcdRow (v : Byte) (s : State) : exec (lcdRow v) s = onLcdc (lcdCommand v) s := by
  unfold lcdRow onLcdc lcdCommand
  split
  · rfl
  split
  · rfl
  split
  · rfl
  split
  · rw [← setcol_fields]; rfl
  rcases opcode_cases (v.extractLsb' 0 3) with hop | hop | hop | hop | hop | hop | hop | hop <;> rw [hop] <;> rfl

end Sys2Proof.Machine

namespace Sys2Proof.Proofs

open Sys2Proof Sys2Proof.Machine

/-- Settles O4. -/
theorem decodeOfEncodeIsIdentity : Obligations.DecodeOfEncodeIsIdentity :=
  fun _ rest hwf => decode_encode hwf rest

/-- Settles O3: the instruction is `Request.instr`, whatever the model. -/
theorem everyRequestDecodes : Obligations.EveryRequestDecodes :=
  fun m op => ⟨op.instr m, fetchDecode_eq m op, op.wellFormed_instr m⟩

/-- Settles O5. -/
theorem encodeOfDecodeIsIdentity : Obligations.EncodeOfDecodeIsIdentity :=
  fun _ _ _ _ h => encode_of_decode h

/-- Settles O10. -/
theorem lcdCommandIsOutToPort10 : Obligations.LcdCommandIsOutToPort10 := by
  intro s v
  rw [exec_lcdRow, portWrite_lcdPort, onLcdc]

/-- Settles O6: each word is the encoding of its operation. -/
theorem sampleWordsDecode : Obligations.SampleWordsDecode :=
  ⟨decode_encode (i := .outPageM83P_06 0x03) rfl [], decode_encode (i := .inStatusM83P_04) rfl [],
    decode_encode (i := .inUnmapped 1 0x10) rfl [], decode_encode (i := .outLcddataM84SE_11 0x3F) rfl [],
    decode_encode (i := .lcdSetrow 10) rfl [], decode_encode (i := .lcdSetcol 1 5) rfl [],
    decode_encode (i := .lcdOn 1) rfl [], decode_encode (i := .memwr 0x8123 0x77) rfl [],
    decode_encode (i := .tick true) rfl []⟩

/-- Settles O7. -/
theorem defaultRowsAreTheUnmappedKeys : Obligations.DefaultRowsAreTheUnmappedKeys :=
  fun tag p v => ⟨inRow_eq_inUnmapped_iff tag p, outRow_eq_outUnmapped_iff tag p v⟩

end Sys2Proof.Proofs
end

section
/-! PROOFS of the mapper statements (40_mapper.md): the windows of each family in arithmetic on the register values, the
place of a window in its arena, and the windows after reset. -/

namespace Sys2Proof.Machine

/-! ### Registers in arithmetic -/

/-- A bit field of a register in arithmetic on its value. -/
theorem field_eq (v : Byte) (lo len : Nat) : field v lo len = v.toNat / 2 ^ lo % 2 ^ len := by
  rw [field, BitVec.extractLsb'_toNat, Nat.shiftRight_eq_div_pow]

/-- The low bits of a register. -/
theorem field_zero (v : Byte) (len : Nat) : field v 0 len = v.toNat % 2 ^ len := by
  rw [field_eq, Nat.pow_zero, Nat.div_one]

/-- A bit of a register in arithmetic on its value. -/
theorem getLsbD_iff (v : Byte) (b : Nat) : v.getLsbD b = true ↔ v.toNat / 2 ^ b % 2 = 1 := by
  rw [BitVec.getLsbD, Nat.testBit_eq_decide_div_mod_eq, decide_eq_true_eq]

theorem getLsbD_zero_eq_false_iff (v : Byte) : v.getLsbD 0 = false ↔ v.toNat % 2 = 0 := by
  rw [← Bool.not_eq_true, getLsbD_iff, Nat.pow_zero, Nat.div_one]
  omega

theorem getLsbD_zero_iff (v : Byte) : v.getLsbD 0 = true ↔ ¬ v.toNat % 2 = 0 := by
  rw [← getLsbD_zero_eq_false_iff, Bool.not_eq_false]

/-- The even page of a pair. -/
theorem and_FE_eq (v : Byte) : v &&& 0xFE = BitVec.ofNat 8 (v.toNat / 2 * 2) := by
  revert v; decide +kernel

/-- The odd page of a pair. -/
theorem or_01_eq (v : Byte) : v ||| 0x01 = BitVec.ofNat 8 (v.toNat / 2 * 2 + 1) := by
  revert v; decide +kernel

/-! ### The windows of each family -/

theorem mapPages_of_A {c : Cfg} {n : Fin 32} (h : c.family = .A n) (ports : Vector Byte 32) :
    mapPages c ports = mapA c ports[n] := by
  rw [mapPages, h]

theorem mapPages_of_B {c : Cfg} (h : c.family = .B) (ports : Vector Byte 32) :
    mapPages c ports = mapB c ports[5] ports[6] := by
  rw [mapPages, h]

theorem mapPages_of_C {c : Cfg} (h : c.family = .C) (ports : Vector Byte 32) :
    mapPages c ports = mapC c ports[0] ports[2] ports[4] := by
  rw [mapPages, h]

theorem mapPages_of_D {c : Cfg} {b : Nat} {x : Bool} (h : c.family = .D b x) (ports : Vector Byte 32) :
    mapPages c ports = mapD c b ports[4] ports[6] ports[7] ports[10] := by
  rw [mapPages, h]

/-- Page selection of Family B in arithmetic on the register value (R85). -/
theorem selB_eq (c : Cfg) (g : Byte) :
    selB c g = if g.toNat / 64 % 2 = 1 then ramPage c (g.toNat % 8) else romPage c (g.toNat % 16) := by
  have hbit : g.getLsbD 6 = true ↔ g.toNat / 64 % 2 = 1 := getLsbD_iff g 6
  have hram : field g 0 3 = g.toNat % 8 := field_zero g 3
  have hrom : field g 0 4 = g.toNat % 16 := field_zero g 4
  simp only [selB, hbit, hram, hrom]

/-- Page selection of Family D in arithmetic on the register value (R88). -/
theorem selD_eq (c : Cfg) (b : Nat) (g : Byte) :
    selD c b g = if g.toNat / 2 ^ b % 2 = 1 then ramPage c (g.toNat % 2 ^ b) else romPage c (g.toNat % 2 ^ b) := by
  simp only [selD, getLsbD_iff, field_zero]

/-- The windows of Family C in arithmetic on the register values (R86). -/
theorem mapC_eq (c : Cfg) (l p cm : Byte) :
    mapC c l p cm =
      #v[romPage c 0,
         if cm.toNat % 2 = 0 then romPage c (8 * (l.toNat / 16 % 2) + p.toNat % 8) else ramPage c 0,
         if p.toNat / 128 = 0 then ramPage c 1
         else if cm.toNat % 2 = 0 then romPage c (8 * (l.toNat / 16 % 2) + p.toNat % 8)
         else romPage c (p.toNat % 8),
         ramPage c 0] := by
  have hhigh : field l 4 1 = l.toNat / 16 % 2 := field_eq l 4 1
  have hlow : field p 0 3 = p.toNat % 8 := field_zero p 3
  have hd : p.getLsbD 7 = false ↔ p.toNat / 128 = 0 := by
    have hbyte := p.isLt
    rw [← Bool.not_eq_true, getLsbD_iff]
    omega
  simp only [mapC, hhigh, hlow, Bool.not_eq_true', hd, getLsbD_zero_iff, getLsbD_zero_eq_false_iff, ite_not]

/-- A window of power-of-two arenas is a whole page inside its arena (R83). -/
theorem Page.Mapped.aligned_inside {c : Cfg} {g : Page} {j k : Nat} (h : g.Mapped c) (hj : 14 ≤ j) (hk : 14 ≤ k)
    (hrom : c.romSize = 2 ^ j) (hram : c.ramSize = 2 ^ k) :
    g.off % 0x4000 = 0 ∧ g.off + 0x4000 ≤ arenaSize c g.arena := by
  have whole : ∀ n i : Nat, 14 ≤ i → pageOff n (2 ^ i) % 0x4000 = 0 ∧ pageOff n (2 ^ i) + 0x4000 ≤ 2 ^ i :=
    fun n i hi => ⟨by rw [pageOff_pow n i hi, Nat.mul_mod_left], pageOff_add_le n hi⟩
  obtain ⟨n, rfl | rfl⟩ := h
  · show pageOff n c.romSize % 0x4000 = 0 ∧ pageOff n c.romSize + 0x4000 ≤ c.romSize
    rw [hrom]
    exact whole n j hj
  · show pageOff n c.ramSize % 0x4000 = 0 ∧ pageOff n c.ramSize + 0x4000 ≤ c.ramSize
    rw [hram]
    exact whole n k hk

end Sys2Proof.Machine

namespace Sys2Proof.Proofs

open Sys2Proof Sys2Proof.Machine

/-- Settles O40: every window is a page of the mapper. -/
theorem windowsStayInsideTheirArenas : Obligations.WindowsStayInsideTheirArenas := by
  refine ⟨fun c j k ports w hj hk hrom hram => ?_, fun page j hj => ?_⟩
  · have hmapped := mapPages_mapped c ports _ (Vector.getElem_mem w.isLt)
    obtain ⟨haligned, hinside⟩ := hmapped.aligned_inside (by omega) (by omega) hrom hram
    exact ⟨haligned, Nat.lt_of_succ_le hinside⟩
  · have hpages : 2 ^ j / 2 ^ 14 = 2 ^ (j - 14) := Nat.pow_div (by omega) (by decide)
    rw [show (0x4000 : Nat) = 2 ^ 14 by decide, hpages]
    exact pageOff_pow page j (by omega)

/-- Settles O41: the family's one page field is the low nibble. -/
theorem familyAWindows : Obligations.FamilyAWindows := by
  intro c n ports h
  have hpage : field ports[n] 0 4 = ports[n].toNat % 16 := field_zero ports[n] 4
  simp only [mapPages_of_A h, mapA, hpage, romPage, ramPage]

/-- Settles O42: the statement's selection is `selB`. -/
theorem familyBWindows : Obligations.FamilyBWindows := by
  intro c ports sel h hsel
  have hselB : selB c = sel := funext fun g => by simp only [selB_eq, hsel, romPage, ramPage]
  simp only [mapPages_of_B h, mapB, hselB, romPage, ramPage]

/-- Settles O43: `mapC` in arithmetic. -/
theorem familyCWindows : Obligations.FamilyCWindows := by
  rintro c ports _ _ _ _ h rfl rfl rfl rfl
  simp only [mapPages_of_C h, mapC_eq, romPage, ramPage]

/-- Settles O44: the statement's selection is `selD`, and bit 0 of page A set or clear is the odd or even page. -/
theorem familyDWindows : Obligations.FamilyDWindows := by
  intro c b x ports sel h _ hsel
  have hselD : selD c b = sel := funext fun g => by simp only [selD_eq, hsel, romPage, ramPage]
  simp only [mapPages_of_D h, mapD, hselD, and_FE_eq, or_01_eq, getLsbD_zero_iff, ite_not, romPage, ramPage]

/-- Settles O51: no window depends on `LINKRD`, so the table is that of the register file of zeros. -/
theorem windowsAfterReset : Obligations.WindowsAfterReset := by
  intro v r hr
  have hlink : mapPages r.1.cfg ((Vector.replicate 32 0x00).set 9 v) = mapPages r.1.cfg (Vector.replicate 32 0x00) :=
    mapPages_set _ _ 9 v (by cases r.1 <;> decide)
  rw [hlink]
  clear hlink
  revert r
  decide

end Sys2Proof.Proofs
end

section
/-! PROOFS, every step keeps the invariant: the LCD controller's part of it, then each operation's effect (40_mapper.md R82,
10_state.md, 42_lcd.md). -/

namespace Sys2Proof.Machine

/-! ### The LCD controller's part of the invariant -/

/-- The clauses of `State.Inv` that speak of the LCD controller alone. -/
structure Lcd.Inv (l : Lcd) : Prop where
  status : l.status &&& 0x9C = 0
  padding : ∀ r, l.byteAt r 15 = 0
  col : l.col ≤ 19

theorem State.Inv.lcd {s : State} (h : s.Inv) : s.lcd.Inv := ⟨h.lcdStatus, h.lcdPadding, h.lcdCol⟩

/-- Bits of a status byte that are put beside the old ones leave bits 2, 3, 4 and 7 clear if they do not name them. -/
theorem and_or_and_status {c m x : Byte} (hc : c &&& 0x9C = 0) (hx : x &&& 0x9C = 0) :
    ((c &&& m) ||| x) &&& 0x9C = 0 := by
  rw [BitVec.and_or_distrib_right, hx, BitVec.and_assoc, BitVec.and_comm m, ← BitVec.and_assoc, hc]
  simp

theorem withMode8_and_status {c : Byte} (b : Bool) (hc : c &&& 0x9C = 0) : withMode8 c b &&& 0x9C = 0 :=
  and_or_and_status hc (by cases b <;> rfl)

theorem withOn_and_status {c : Byte} (b : Bool) (hc : c &&& 0x9C = 0) : withOn c b &&& 0x9C = 0 :=
  and_or_and_status hc (by cases b <;> rfl)

theorem withDir_and_status {c : Byte} (d : BitVec 2) (hc : c &&& 0x9C = 0) : withDir c d &&& 0x9C = 0 :=
  and_or_and_status hc (by revert d; decide)

theorem and_colSetMask_le (b : BitVec 5) : b &&& Config.colSetMask ≤ 19 := by
  revert b; decide

theorem boundary_le (c : Byte) : boundary c ≤ 19 := by
  unfold boundary
  split <;> decide

theorem colDec_le (b c : BitVec 5) : colDec b c ≤ b := by
  unfold colDec
  split <;> bv_omega

theorem colInc_le (b c : BitVec 5) : colInc b c ≤ b := by
  unfold colInc
  split <;> bv_omega

/-- The cursor never leaves the columns of the mode (42_lcd.md R158). -/
theorem advance_col_le {l : Lcd} (h : l.col ≤ 19) : l.advance.col ≤ 19 := by
  have hb := boundary_le l.status
  unfold Lcd.advance
  split
  · exact h
  split
  · exact h
  split
  · exact BitVec.le_trans (colDec_le _ _) hb
  · exact BitVec.le_trans (colInc_le _ _) hb

theorem Lcd.Inv.advance {l : Lcd} (h : l.Inv) : l.advance.Inv where
  status := by rw [advance_frame]; exact h.status
  padding := by rw [advance_frame]; exact h.padding
  col := advance_col_le h.col

/-- A byte's bits are the eight pixels that it shows, leftmost in bit 7 (10_state.md R25). -/
theorem getLsbD_byteAt (l : Lcd) (r : BitVec 6) (b j : Nat) (hj : j < 8) :
    (l.byteAt r b).getLsbD j = l.pixel r (8 * b + (7 - j)) := by
  unfold Lcd.pixel
  congr 2 <;> omega

/-- The six pixels of a column end before pixel 120, so `Insert6` leaves byte 15 as it was (90_conflicts.md C5). -/
theorem insert6_byteAt_fifteen (l : Lcd) (r y : BitVec 6) {c : BitVec 5} (u : BitVec 6) (hc : c.toNat ≤ 19) :
    (l.insert6 r c u).byteAt y 15 = l.byteAt y 15 := by
  refine BitVec.eq_of_getLsbD_eq fun j hj => ?_
  rw [getLsbD_byteAt _ _ _ _ hj, getLsbD_byteAt _ _ _ _ hj, insert6_pixel _ _ _ _ _ _ (by omega), if_neg (by omega)]

/-- A datum stored under the cursor leaves byte 15 of each row as it was, in both modes (90_conflicts.md C5). -/
theorem store_byteAt_fifteen (l : Lcd) (v : Byte) (y : BitVec 6) : (l.store v).byteAt y 15 = l.byteAt y 15 := by
  cases hmode : l.status.getLsbD 6
  · rw [store_mode6 l v hmode]
    split
    · exact insert6_byteAt_fifteen l l.row y _ ‹_›
    · rfl
  · rw [store_mode8 l v hmode]
    split
    · rw [byteAt_setByte _ _ _ _ _ _ (by decide), if_neg (by omega)]
    · rfl

theorem Lcd.Inv.store {l : Lcd} (h : l.Inv) (v : Byte) : (l.store v).Inv where
  status := by rw [store_frame]; exact h.status
  padding r := (store_byteAt_fifteen l v r).trans (h.padding r)
  col := by rw [store_frame]; exact h.col

/-- A command leaves a controller that meets its part of the invariant: it writes one field, and arms the delay flag. -/
theorem lcdCommand_lcd_inv (v : Byte) {s : State} (h : s.lcd.Inv) : (lcdCommand v s).lcd.Inv := by
  obtain ⟨hstatus, hpadding, hcol⟩ := h
  have hmode (b : Bool) : (cmdMode b s).lcd.Inv := ⟨withMode8_and_status b hstatus, hpadding, hcol⟩
  have hpower (b : Bool) : (cmdPower b s).lcd.Inv := ⟨withOn_and_status b hstatus, hpadding, hcol⟩
  have hdir (d : BitVec 2) : (cmdDir d s).lcd.Inv := ⟨withDir_and_status d hstatus, hpadding, hcol⟩
  unfold lcdCommand
  split
  · exact ⟨hstatus, hpadding, hcol⟩
  split
  · exact ⟨hstatus, hpadding, hcol⟩
  split
  · exact ⟨hstatus, hpadding, hcol⟩
  split
  · exact ⟨hstatus, hpadding, and_colSetMask_le _⟩
  split
  · exact hmode false
  · exact hmode true
  · exact hpower false
  · exact hpower true
  · exact hdir 0
  · exact hdir 1
  · exact hdir 2
  · exact hdir 3

/-! ### What an operation may write and keep the invariant -/

/-- STATUS has no bit above bit 3 (10_state.md R15). -/
theorem tickStatus_high (s : State) : tickStatus s &&& 0xF0 = 0 := by
  unfold tickStatus
  generalize s.port 3 = c, onState s.onKey s.startupOn = on
  revert c on
  decide +kernel

namespace State.Inv

variable {s : State}

/-- The invariant says nothing of the outputs, the host's inputs, `ExitNow`, `UCount` or the operations still to come. -/
theorem of_free_fields (h : s.Inv) {keyRow : Vector Byte 8} {onKey exitNow : Bool} {uCount uperiod : Nat}
    {pending : List Pending} {result : Option Result} {strobe : Option Strobe} :
    State.Inv { s with
      keyRow := keyRow, onKey := onKey, exitNow := exitNow, uCount := uCount, uperiod := uperiod,
      pending := pending, result := result, strobe := strobe } :=
  { h with }

theorem answer (h : s.Inv) (r : Option Result) (e : Option Strobe) : (s.answer r e).Inv :=
  h.of_free_fields

theorem present (h : s.Inv) (e : Pending) (rest : List Pending) : (s.present e rest).Inv :=
  h.of_free_fields

theorem setLcd (h : s.Inv) {l : Lcd} (hlcdc : s.model.cfg.hasLcdc = true) (hl : l.Inv) : (s.setLcd l).Inv :=
  { h with
    lcdStatus := hl.status
    lcdPadding := hl.padding
    lcdCol := hl.col
    lcdAbsent := fun hnone => by rw [State.setLcd_model, hlcdc] at hnone; cases hnone }

theorem writeRam (h : s.Inv) {i : Nat} (hi : i < s.model.cfg.ramSize) (v : Byte) : (s.writeRam i v).Inv :=
  { h with
    ramWf := Memory.wf_write s.ram i v h.ramWf
    ramBound := Memory.bound_write h.ramBound hi }

/-- The registers that the invariant speaks of are STATUS and others that no port of the model reaches: a new register
file keeps it if the windows are computed from it, STATUS has its high bits clear and the others are as before. -/
theorem of_ports (h : s.Inv) {page : Vector Page 4} {ports : Vector Byte 32}
    (hpage : page = mapPages s.model.cfg ports) (hstatus : ports[8] &&& 0xF0 = 0)
    (hkeep : ∀ i : Fin 32, reachable s.model i = false → i ≠ 8 → ports[i] = s.ports[i]) :
    State.Inv { s with page := page, ports := ports } :=
  { h with
    windows := hpage
    statusHigh := hstatus
    link := (hkeep 9 (reachable_eq_false (by decide) (by decide)) (by decide)).trans h.link
    pageC := fun hc => by
      have hfixed : reachable s.model 10 = false := by simp [reachable, hc]
      exact (hkeep 10 hfixed (by decide)).trans (h.pageC hc)
    port5 := fun hc => by
      have hfixed : reachable s.model 5 = false := by simp [reachable, hc]
      exact (hkeep 5 hfixed (by decide)).trans (h.port5 hc)
    reserved := fun i hi =>
      (hkeep i (reachable_eq_false (by omega) (by omega)) (by rintro rfl; exact absurd hi (by decide))).trans
        (h.reserved i hi) }

/-- A port's byte is stored, with the windows computed from the new register file. -/
theorem of_setPort (h : s.Inv) {i : Fin 32} (v : Byte) {page : Vector Page 4} (hi : reachable s.model i = true)
    (hpage : page = mapPages s.model.cfg (s.ports.set i v)) :
    State.Inv { s with page := page, ports := s.ports.set i v } := by
  have hkeep := ports_set_reachable v hi
  have h8 : (s.ports.set i v)[8] = s.ports[8] := hkeep 8 (reachable_eq_false (by decide) (by decide))
  exact h.of_ports hpage (h8 ▸ h.statusHigh) fun j hj _ => hkeep j hj

/-! ### Every operation -/

theorem portRead (h : s.Inv) (p : Byte) : (portRead p s).Inv := by
  rcases portRead_spec p s with ⟨b, hread⟩ | ⟨_, hlcdc, hread⟩ <;> rw [hread]
  · exact h.answer _ _
  · obtain ⟨l, b, hdata, -, harmed, hidle⟩ := lcdRead_spec s
    have hl : l.Inv := by
      cases hdelay : s.lcd.delay
      · rw [(hidle hdelay).1]
        exact h.lcd.advance
      · rw [(harmed hdelay).1]
        exact ⟨h.lcdStatus, h.lcdPadding, h.lcdCol⟩
    rw [hdata]
    exact (h.setLcd hlcdc hl).answer _ _

theorem portWrite (h : s.Inv) (p v : Byte) : (portWrite p v s).Inv := by
  rcases portWrite_spec p v s with
    ⟨i, e, hi, hpage, hwrite⟩ | ⟨i, hi, hwrite⟩ | ⟨_, hlcdc, hwrite⟩ | ⟨_, hlcdc, hwrite⟩ | hwrite <;> rw [hwrite]
  · exact (h.of_setPort v hi (h.windows.trans hpage.symm)).answer none e
  · exact (h.of_setPort v hi rfl).answer none none
  · obtain ⟨l, e, hcommand, _⟩ := lcdCommand_spec v s
    have hl : l.Inv := by
      have hafter := lcdCommand_lcd_inv v h.lcd
      rwa [hcommand] at hafter
    rw [hcommand]
    exact (h.setLcd hlcdc hl).answer none e
  · exact (h.setLcd hlcdc (h.lcd.store v).advance).answer none none
  · exact h.answer none none

theorem tick (h : s.Inv) (b : Bool) : (tick b s).Inv := by
  have hpage : s.page = mapPages s.model.cfg (s.ports.set 8 (tickStatus s)) :=
    h.windows.trans (mapPages_set _ _ 8 _ (by cases s.model <;> decide)).symm
  have hstatus : (s.ports.set 8 (tickStatus s))[8] &&& 0xF0 = 0 := by
    rw [Vector.getElem_set_self]
    exact tickStatus_high s
  have hports := h.of_ports hpage hstatus fun i _ hi => ports_set_ne s.ports _ hi.symm
  have hcount : (if s.startupOn = 0 then 0 else s.startupOn - 1) ≤ s.startupTicks := by
    have := h.startup
    split <;> omega
  exact { hports with startup := hcount }

/-- Every effect of an operation that is no port transaction and no LCD command. -/
theorem of_effect {op : Request} {t : State} (h : s.Inv) (hop : transacts op.iface = false) (he : Effect s op t) :
    t.Inv := by
  cases he with
  | transacted htransacts _ => rw [hop] at htransacts; cases htransacts
  | tick b => exact h.tick b
  | reset k m _ hfits => exact (resetTo_inv h.imagesWf hfits).answer none none
  | memwrRam a v hram hin =>
    rw [State.inArena_iff, hram] at hin
    exact (h.writeRam hin v).answer none none
  | hostexit | hostkeys => exact h.of_free_fields
  | memrd | memwrRom | resetRefused => exact h.answer _ _

theorem of_exec {m : Model} {op : Request} {t : State} (h : s.Inv) (hexec : exec (op.instr m) s = .next t) :
    t.Inv := by
  cases op with
  | input p =>
    rw [Request.instr, exec_inRow] at hexec
    cases hexec
    exact h.portRead p
  | output p v =>
    rw [Request.instr, exec_outRow] at hexec
    cases hexec
    exact h.portWrite p v
  | lcdcmd v =>
    rw [Request.instr, Proofs.lcdCommandIsOutToPort10] at hexec
    cases hexec
    exact h.portWrite 0x10 v
  | memrd | memwr | tick | reset | hostexit | hostkeys => exact h.of_effect rfl (effect_of_exec hexec)

end State.Inv

end Sys2Proof.Machine

namespace Sys2Proof.Proofs

open Sys2Proof Sys2Proof.Machine

/-- Settles O54: presenting the operation keeps the invariant, and so does executing it. -/
theorem stepKeepsInv : Obligations.StepKeepsInv := by
  intro s t hinv h
  cases hs : s.pending with
  | nil =>
    rw [step_of_pending_nil hs] at h
    cases h
    exact hinv
  | cons e rest =>
    rw [step_of_pending_cons hs] at h
    exact (hinv.present e rest).of_exec h

end Sys2Proof.Proofs
end

section
/-! PROOFS of the port dispatch statements (41_port_dispatch.md): the rows of each register class as rows that the port map
gives the class, what a class's read and write do, and the keypad scan bit by bit. -/

namespace Sys2Proof.Machine

/-! ### The behaviour of a register class -/

/-- What an IN of an address of the class does (R103 to R118). -/
def PortClass.read : PortClass → State → State
  | .plain i => readPlain i
  | .keypad => readKeypad
  | .statctl | .mapstat => readStatus
  | .control => readControl
  | .contrast => readContrast
  | .link _ => readLink
  | .page i => readPage i
  | .lcdcmd => readLcdStat
  | .lcddata => readLcdData
  | .unmapped => readUnmapped

/-- What an OUT to an address of the class does (R104 to R119). -/
def PortClass.write : PortClass → Byte → State → State
  | .plain i => writePlain i
  | .keypad => writeKeypad
  | .statctl | .control => writeControl
  | .mapstat => writeMapsel
  | .contrast => writeContrast
  | .link i => writeLink i
  | .page i => writePage i
  | .lcdcmd => writeLcdCmd
  | .lcddata => writeLcdData
  | .unmapped => fun _ => writeUnmapped

/-- The second and third step of R100 for an IN: the address selects the class, the class what is done. -/
theorem portRead_eq_read (p : Byte) (s : State) : portRead p s = (portClass s.model p).read s := by
  unfold portRead
  cases portClass s.model p <;> rfl

/-- The second and third step of R100 for an OUT. -/
theorem portWrite_eq_write (p v : Byte) (s : State) : portWrite p v s = (portClass s.model p).write v s := by
  unfold portWrite
  cases portClass s.model p <;> rfl

/-- The model's own trigger of the link port: `Remap()` after the store on M83, nothing on the others (R113). -/
theorem writeLink_eq (i : Fin 32) (v : Byte) (s : State) :
    writeLink i v s =
      { s with ports := s.ports.set i v, result := none, strobe := none,
               page := if s.model = .m83 then mapPages s.model.cfg (s.ports.set i v) else s.page } := by
  unfold writeLink
  split <;> rfl

/-! ### The rows of a register class -/

/-- The IN row that a model's key decodes to at some address of the class (R101). -/
def IsInRow (m : Model) (c : PortClass) (i : Instr) : Prop :=
  ∃ p, inRow (tagField m) p = i ∧ portClass m p = c

/-- The OUT row, for every data byte, that a model's key decodes to at some address of the class (R101). -/
def IsOutRow (m : Model) (c : PortClass) (i : Byte → Instr) : Prop :=
  ∃ p, (∀ v, outRow (tagField m) p v = i v) ∧ portClass m p = c

/-- An IN row of a class does the class's read while the model is its own. -/
theorem IsInRow.exec_eq {m : Model} {c : PortClass} {i : Instr} (h : IsInRow m c i) {s : State} (hs : s.model = m) :
    exec i s = .next (c.read s) := by
  obtain ⟨p, rfl, rfl⟩ := h
  rw [exec_inRow, portRead_eq_read, hs]

/-- An OUT row of a class does the class's write while the model is its own. -/
theorem IsOutRow.exec_eq {m : Model} {c : PortClass} {i : Byte → Instr} (h : IsOutRow m c i) {s : State}
    (hs : s.model = m) (v : Byte) : exec (i v) s = .next (c.write v s) := by
  obtain ⟨p, hrow, rfl⟩ := h
  rw [← hrow, exec_outRow, portWrite_eq_write, hs]

/-- The port address of a row: the first byte of its key (30_encoding.md R76). -/
def portAddress (i : Instr) : Byte := (encode i).headD 0

theorem isInRow_of_portAddress {m : Model} {c : PortClass} {i : Instr} (hrow : inRow (tagField m) (portAddress i) = i)
    (hclass : portClass m (portAddress i) = c) : IsInRow m c i :=
  ⟨portAddress i, hrow, hclass⟩

theorem isOutRow_of_portAddress {m : Model} {c : PortClass} {i : Byte → Instr}
    (hrow : ∀ v, outRow (tagField m) (portAddress (i 0)) v = i v)
    (hclass : portClass m (portAddress (i 0)) = c) : IsOutRow m c i :=
  ⟨portAddress (i 0), hrow, hclass⟩

/-! ### The tables of rows against the port map

Each row of a table is a row of the class that the table is named after. Three tables hold rows of two classes: STATUS is
read on STATCTL and MAPSTAT (R107), CONTROL written on STATCTL and CONTROL (R108), and the map-select byte written on MAPSTAT
and on M83's PAGE(4) (R110). -/

theorem isInRow_inPlain : ∀ r ∈ Rows.inPlain, IsInRow r.1 (.plain r.2.1) r.2.2 := by
  intro r hr
  fin_cases hr <;> exact isInRow_of_portAddress rfl rfl

theorem isOutRow_outPlain : ∀ r ∈ Rows.outPlain, IsOutRow r.1 (.plain r.2.1) r.2.2 := by
  intro r hr
  fin_cases hr <;> exact isOutRow_of_portAddress (fun _ => rfl) rfl

theorem isInRow_inKeypad : ∀ r ∈ Rows.inKeypad, IsInRow r.1 .keypad r.2 := by
  intro r hr
  fin_cases hr <;> exact isInRow_of_portAddress rfl rfl

theorem isOutRow_outKeypad : ∀ r ∈ Rows.outKeypad, IsOutRow r.1 .keypad r.2 := by
  intro r hr
  fin_cases hr <;> exact isOutRow_of_portAddress (fun _ => rfl) rfl

theorem isInRow_inStatus : ∀ r ∈ Rows.inStatus, ∃ c, IsInRow r.1 c r.2 ∧ c.read = readStatus := by
  intro r hr
  fin_cases hr <;> exact ⟨_, isInRow_of_portAddress rfl rfl, rfl⟩

theorem isOutRow_outControl : ∀ r ∈ Rows.outControl, ∃ c, IsOutRow r.1 c r.2 ∧ c.write = writeControl := by
  intro r hr
  fin_cases hr <;> exact ⟨_, isOutRow_of_portAddress (fun _ => rfl) rfl, rfl⟩

theorem isInRow_inControl : ∀ r ∈ Rows.inControl, IsInRow r.1 .control r.2 := by
  intro r hr
  fin_cases hr <;> exact isInRow_of_portAddress rfl rfl

theorem isOutRow_outMapsel : ∀ r ∈ Rows.outMapsel, ∃ c, IsOutRow r.1 c r.2 ∧ c.write = writeMapsel := by
  intro r hr
  fin_cases hr <;> exact ⟨_, isOutRow_of_portAddress (fun _ => rfl) rfl, rfl⟩

theorem isInRow_inContrast : ∀ r ∈ Rows.inContrast, IsInRow r.1 .contrast r.2 := by
  intro r hr
  fin_cases hr <;> exact isInRow_of_portAddress rfl rfl

theorem isOutRow_outContrast : ∀ r ∈ Rows.outContrast, IsOutRow r.1 .contrast r.2 := by
  intro r hr
  fin_cases hr <;> exact isOutRow_of_portAddress (fun _ => rfl) rfl

theorem isInRow_inLink : ∀ r ∈ Rows.inLink, ∃ i, IsInRow r.1 (.link i) r.2 := by
  intro r hr
  fin_cases hr <;> exact ⟨_, isInRow_of_portAddress rfl rfl⟩

theorem isOutRow_outLink : ∀ r ∈ Rows.outLink, IsOutRow r.1 (.link r.2.1) r.2.2 := by
  intro r hr
  fin_cases hr <;> exact isOutRow_of_portAddress (fun _ => rfl) rfl

theorem isInRow_inPage : ∀ r ∈ Rows.inPage, IsInRow r.1 (.page r.2.1) r.2.2 := by
  intro r hr
  fin_cases hr <;> exact isInRow_of_portAddress rfl rfl

theorem isOutRow_outPage : ∀ r ∈ Rows.outPage, IsOutRow r.1 (.page r.2.1) r.2.2 := by
  intro r hr
  fin_cases hr <;> exact isOutRow_of_portAddress (fun _ => rfl) rfl

/-! ### Unmapped addresses -/

/-- An address outside the port ranges of 20_memory.md R54 has no row in the column of R101. -/
theorem portClass_of_unmapped {m : Model} {p : Byte} (h : portMapped (tagField m) p = false) :
    portClass m p = .unmapped := by
  revert h
  cases m
  all_goals
    unfold portClass
    simp only [classM85, classM86, classM82, classM83, classM83P, classExpanded]
    split
    on_goal -1 => exact fun _ => rfl
    all_goals exact fun hmapped => nomatch hmapped

/-! ### The keypad scan -/

/-- One row of the keypad scan: its byte is ANDed in if its select bit is 0 (R106). -/
def scanRow (sel : Byte) (rows : Vector Byte 8) (r : Byte) (i : Fin 8) : Byte :=
  if sel.getLsbD i.val then r else r &&& rows[i]

theorem keyScan_eq_foldl (sel : Byte) (rows : Vector Byte 8) :
    keyScan sel rows = (List.finRange 8).foldl (scanRow sel rows) 0xFF := rfl

/-- A bit after one row is scanned: a row that is not selected leaves it. -/
theorem getLsbD_scanRow (sel : Byte) (rows : Vector Byte 8) (j : Nat) (r : Byte) (i : Fin 8) :
    (scanRow sel rows r i).getLsbD j = true ↔
      r.getLsbD j = true ∧ (sel.getLsbD i.val = false → rows[i].getLsbD j = true) := by
  unfold scanRow
  cases sel.getLsbD i.val <;> simp

/-- A bit after some rows are scanned: 1 if it was 1 before and is 1 in each of them that is selected. -/
theorem getLsbD_foldl_scanRow (sel : Byte) (rows : Vector Byte 8) (j : Nat) (l : List (Fin 8)) (r : Byte) :
    (l.foldl (scanRow sel rows) r).getLsbD j = true ↔
      r.getLsbD j = true ∧ ∀ i ∈ l, sel.getLsbD i.val = false → rows[i].getLsbD j = true := by
  induction l generalizing r with
  | nil => simp
  | cons i l ih =>
    rw [List.foldl_cons, ih, getLsbD_scanRow, List.forall_mem_cons, and_assoc]

/-- A column bit of the scan is 1 exactly when no selected row pulls it low (R106). -/
theorem getLsbD_keyScan (sel : Byte) (rows : Vector Byte 8) (j : Fin 8) :
    (keyScan sel rows).getLsbD j.val =
      decide (∀ i : Fin 8, sel.getLsbD i.val = false → rows[i].getLsbD j.val = true) := by
  have hreleased : (0xFF : Byte).getLsbD j.val = true := by revert j; decide
  rw [Bool.eq_iff_iff, decide_eq_true_eq, keyScan_eq_foldl, getLsbD_foldl_scanRow]
  simp only [hreleased, List.mem_finRange, true_and, forall_const]

end Sys2Proof.Machine

namespace Sys2Proof.Proofs

open Sys2Proof Sys2Proof.Machine

/-! A class's `read` or `write` unfolds to the state that the statement about its rows writes out, so `exec_eq` alone settles
most of them. -/

/-- Settles O8. -/
theorem decodedInFollowsPortMap : Obligations.DecodedInFollowsPortMap :=
  fun s p => exec_inRow (tagField s.model) p s

/-- Settles O9. -/
theorem decodedOutFollowsPortMap : Obligations.DecodedOutFollowsPortMap :=
  fun s p v => exec_outRow (tagField s.model) p v s

/-- Settles O14: the row returns `keyScan`, bit by bit. -/
theorem inKeypadScansSelectedRows : Obligations.InKeypadScansSelectedRows :=
  fun r hr s hs =>
    ⟨keyScan s.ports[1] s.keyRow, (isInRow_inKeypad r hr).exec_eq hs, getLsbD_keyScan s.ports[1] s.keyRow⟩

/-- Settles O60: an IN that is not the data read of an LCD controller only answers. -/
theorem readsHaveNoSideEffectButLcdData : Obligations.ReadsHaveNoSideEffectButLcdData := by
  intro s p hp
  rw [exec_inRow]
  rcases portRead_spec p s with ⟨b, hread⟩ | ⟨hdata, _, _⟩
  · exact ⟨b, congrArg _ hread⟩
  · exact absurd hdata hp

/-- Settles O11. -/
theorem inPlainReturnsRegister : Obligations.InPlainReturnsRegister :=
  fun r hr _ hs => (isInRow_inPlain r hr).exec_eq hs

/-- Settles O12. -/
theorem outPlainStoresByte : Obligations.OutPlainStoresByte :=
  fun r hr _ v hs => (isOutRow_outPlain r hr).exec_eq hs v

/-- Settles O13. -/
theorem outKeypadStoresSelect : Obligations.OutKeypadStoresSelect :=
  fun r hr _ v hs => (isOutRow_outKeypad r hr).exec_eq hs v

/-- Settles O15: the rows are of two classes, with the same read. -/
theorem inStatusReturnsStatus : Obligations.InStatusReturnsStatus := by
  intro r hr s hs
  obtain ⟨c, hrow, hread⟩ := isInRow_inStatus r hr
  rw [hrow.exec_eq hs, hread]
  rfl

/-- Settles O16: the rows are of two classes, with the same write. -/
theorem outControlStoresControl : Obligations.OutControlStoresControl := by
  intro r hr s v hs
  obtain ⟨c, hrow, hwrite⟩ := isOutRow_outControl r hr
  rw [hrow.exec_eq hs, hwrite]
  rfl

/-- Settles O17. -/
theorem inControlReturnsControl : Obligations.InControlReturnsControl :=
  fun r hr _ hs => (isInRow_inControl r hr).exec_eq hs

/-- Settles O18: the write of MAPSTAT is that of M83's PAGE(4). -/
theorem outMapselStoresAndRemaps : Obligations.OutMapselStoresAndRemaps := by
  intro r hr s v hs
  obtain ⟨c, hrow, hwrite⟩ := isOutRow_outMapsel r hr
  rw [hrow.exec_eq hs, hwrite]
  rfl

/-- Settles O19. -/
theorem contrastPortStoresStrobesAndReads : Obligations.ContrastPortStoresStrobesAndReads :=
  ⟨fun r hr _ v hs => (isOutRow_outContrast r hr).exec_eq hs v, fun r hr _ hs => (isInRow_inContrast r hr).exec_eq hs⟩

/-- Settles O20: under the invariant the link read register holds `LINK_IDLE`. -/
theorem inLinkReturnsIdle : Obligations.InLinkReturnsIdle := by
  intro r hr s hs
  obtain ⟨i, hrow⟩ := isInRow_inLink r hr
  have hread : exec r.2 s = .next { s with result := some (.byte s.ports[9]), strobe := none } := hrow.exec_eq hs
  exact ⟨hread, fun hinv => by rw [hread, hinv.link]⟩

/-- Settles O21. -/
theorem outLinkStoresAndRemapsOnM83 : Obligations.OutLinkStoresAndRemapsOnM83 := by
  intro r hr s v hs
  rw [(isOutRow_outLink r hr).exec_eq hs, PortClass.write, writeLink_eq]

/-- Settles O22. -/
theorem outPageStoresAndRemaps : Obligations.OutPageStoresAndRemaps :=
  fun r hr _ v hs => (isOutRow_outPage r hr).exec_eq hs v

/-- Settles O23. -/
theorem inPageReturnsRegister : Obligations.InPageReturnsRegister :=
  fun r hr _ hs => (isInRow_inPage r hr).exec_eq hs

/-- Settles O24: the default row dispatches its address, and the address has no class. -/
theorem unmappedPortsReadFFAndIgnoreWrites : Obligations.UnmappedPortsReadFFAndIgnoreWrites := by
  intro s p v hunmapped
  have hclass := portClass_of_unmapped hunmapped
  rw [exec_inUnmapped, execInUnmapped_eq, portRead_eq_read, exec_outUnmapped, execOutUnmapped_eq, portWrite_eq_write,
    hclass]
  exact ⟨rfl, rfl⟩

end Sys2Proof.Proofs
end

section
/-! PROOFS of the LCD controller's statements (42_lcd.md): the rows of its two ports, the commands, the cursor, the datum
that a read returns and a write stores, and which operations write which part of the controller. -/

namespace Sys2Proof.Machine

/-! ### The rows of the LCD ports -/

theorem isInRow_inLcdstat : ∀ r ∈ Rows.inLcdstat, IsInRow r.1 .lcdcmd r.2 := by
  intro r hr
  fin_cases hr <;> exact isInRow_of_portAddress rfl rfl

theorem isOutRow_outLcdcmd : ∀ r ∈ Rows.outLcdcmd, IsOutRow r.1 .lcdcmd r.2 := by
  intro r hr
  fin_cases hr <;> exact isOutRow_of_portAddress (fun _ => rfl) rfl

theorem isInRow_inLcddata : ∀ r ∈ Rows.inLcddata, IsInRow r.1 .lcddata r.2 := by
  intro r hr
  fin_cases hr <;> exact isInRow_of_portAddress rfl rfl

theorem isOutRow_outLcddata : ∀ r ∈ Rows.outLcddata, IsOutRow r.1 .lcddata r.2 := by
  intro r hr
  fin_cases hr <;> exact isOutRow_of_portAddress (fun _ => rfl) rfl

/-- Only a model with LCD controller has an address of the command class (42_lcd.md R140). -/
theorem IsOutRow.hasLcdc {m : Model} {i : Byte → Instr} (h : IsOutRow m .lcdcmd i) : m.cfg.hasLcdc = true := by
  obtain ⟨p, -, hclass⟩ := h
  have hindex := portClass_index m p
  simp only [hclass, Bool.and_eq_true] at hindex
  exact hindex.1

/-- Only a model with LCD controller has an address of the data class (42_lcd.md R140). -/
theorem IsInRow.hasLcdc {m : Model} {i : Instr} (h : IsInRow m .lcddata i) : m.cfg.hasLcdc = true := by
  obtain ⟨p, -, hclass⟩ := h
  have hindex := portClass_index m p
  simp only [hclass, Bool.and_eq_true] at hindex
  exact hindex.1

/-! ### Commands -/

section
variable {s : State}

theorem onLcdc_of_hasLcdc (hlcdc : s.model.cfg.hasLcdc = true) (command : State → State) :
    onLcdc command s = .next (command s) := by
  rw [onLcdc, if_pos hlcdc]

theorem onLcdc_of_no_lcdc (hlcdc : s.model.cfg.hasLcdc = false) (command : State → State) :
    onLcdc command s = .next (writeUnmapped s) := by
  rw [onLcdc, hlcdc, if_neg Bool.false_ne_true]

/-- The mask of LCD.SETCOL drops its ignored bit (42_lcd.md R145). -/
theorem append_and_colSetMask (x : BitVec 1) (y : BitVec 4) : (x ++ y) &&& Config.colSetMask = y.setWidth 5 := by
  revert x y; decide

/-- LCD.SETCOL reaches the columns 0 to 15 (42_lcd.md R145). -/
theorem setWidth_col {c : BitVec 5} (hc : c.toNat ≤ 15) : (c.setWidth 4).setWidth 5 = c := by
  refine BitVec.eq_of_toNat_eq ?_
  rw [BitVec.toNat_setWidth, BitVec.toNat_setWidth]
  omega

/-- LCD.SETROW on a model with LCD controller. -/
theorem exec_lcdSetrow_eq (hlcdc : s.model.cfg.hasLcdc = true) (r : BitVec 6) :
    exec (.lcdSetrow r) s =
      .next { s with lcd := { s.lcd with row := r, delay := true }, result := none, strobe := none } :=
  onLcdc_of_hasLcdc hlcdc _

/-- LCD.SETCOL on a model with LCD controller. -/
theorem exec_lcdSetcol_eq (hlcdc : s.model.cfg.hasLcdc = true) (x : BitVec 1) (y : BitVec 4) :
    exec (.lcdSetcol x y) s =
      .next { s with lcd := { s.lcd with col := y.setWidth 5, delay := true }, result := none, strobe := none } := by
  rw [← append_and_colSetMask x y]
  exact onLcdc_of_hasLcdc hlcdc _

/-- The instruction writes the bits of LCD.status that `mask` names with those of `bits`, arms the delay flag, and changes
nothing else but the outputs (42_lcd.md R147 to R154). -/
def WritesStatusBits (s : State) (i : Instr) (mask bits : Byte) : Prop :=
  ∃ st : Byte,
    exec i s = .next { s with lcd := { s.lcd with status := st, delay := true }, result := none, strobe := none } ∧
    ∀ j : Fin 8, st.getLsbD j.val = if mask.getLsbD j.val then bits.getLsbD j.val else s.lcd.status.getLsbD j.val

/-- A byte that differs from another in at most one bit, said with a mask for the bit. -/
theorem getLsbD_of_one_bit {st c mask bits : Byte} {k : Fin 8} {b : Bool}
    (hst : ∀ j : Fin 8, st.getLsbD j.val = if j = k then b else c.getLsbD j.val)
    (hmask : ∀ j : Fin 8, mask.getLsbD j.val = decide (j = k)) (hbits : bits.getLsbD k.val = b) (j : Fin 8) :
    st.getLsbD j.val = if mask.getLsbD j.val then bits.getLsbD j.val else c.getLsbD j.val := by
  rw [hst, hmask]
  by_cases hj : j = k
  · rw [if_pos hj, decide_eq_true hj, if_pos rfl, hj, hbits]
  · rw [if_neg hj, decide_eq_false hj, if_neg Bool.false_ne_true]

theorem cmdMode_writesStatusBits (hlcdc : s.model.cfg.hasLcdc = true) {i : Instr} {b : Bool}
    (hi : exec i s = onLcdc (cmdMode b) s) : WritesStatusBits s i 0x40 (if b then 0x40 else 0x00) := by
  have hbit : (if b then 0x40 else 0x00 : Byte).getLsbD 6 = b := by cases b <;> rfl
  exact ⟨_, hi.trans (onLcdc_of_hasLcdc hlcdc _), getLsbD_of_one_bit (withMode8_bit s.lcd.status b) (by decide) hbit⟩

theorem cmdPower_writesStatusBits (hlcdc : s.model.cfg.hasLcdc = true) {i : Instr} {b : Bool}
    (hi : exec i s = onLcdc (cmdPower b) s) : WritesStatusBits s i 0x20 (if b then 0x20 else 0x00) := by
  have hbit : (if b then 0x20 else 0x00 : Byte).getLsbD 5 = b := by cases b <;> rfl
  exact ⟨_, hi.trans (onLcdc_of_hasLcdc hlcdc _), getLsbD_of_one_bit (withOn_bit s.lcd.status b) (by decide) hbit⟩

theorem cmdDir_writesStatusBits (hlcdc : s.model.cfg.hasLcdc = true) {i : Instr} {d : BitVec 2}
    (hi : exec i s = onLcdc (cmdDir d) s) : WritesStatusBits s i 0x03 (d.setWidth 8) := by
  have hmask : ∀ j : Fin 8, (0x03 : Byte).getLsbD j.val = decide (j.val < 2) := by decide
  refine ⟨withDir s.lcd.status d, hi.trans (onLcdc_of_hasLcdc hlcdc _), fun j => ?_⟩
  rw [withDir_bit, hmask, BitVec.getLsbD_setWidth]
  simp

end

/-! ### The cursor -/

theorem advance_rowDec {l : Lcd} (h : l.status.extractLsb' 0 2 = 0) : l.advance = { l with row := l.row - 1 } := by
  rw [Lcd.advance, lcdDir, h]; rfl

theorem advance_rowInc {l : Lcd} (h : l.status.extractLsb' 0 2 = 1) : l.advance = { l with row := l.row + 1 } := by
  rw [Lcd.advance, lcdDir, h]; rfl

theorem advance_colDec {l : Lcd} (h : l.status.extractLsb' 0 2 = 2) :
    l.advance = { l with col := colDec (boundary l.status) l.col } := by
  rw [Lcd.advance, lcdDir, h]; rfl

theorem advance_colInc {l : Lcd} (h : l.status.extractLsb' 0 2 = 3) :
    l.advance = { l with col := colInc (boundary l.status) l.col } := by
  rw [Lcd.advance, lcdDir, h]; rfl

theorem toNat_boundary (c : Byte) : (boundary c).toNat = if c.getLsbD 6 then 14 else 19 := by
  unfold boundary lcdMode8
  cases c.getLsbD 6 <;> rfl

theorem toNat_rowDec (r : BitVec 6) : (r - 1).toNat = if r.toNat = 0 then 63 else r.toNat - 1 := by
  split <;> bv_omega

theorem toNat_rowInc (r : BitVec 6) : (r + 1).toNat = if r.toNat = 63 then 0 else r.toNat + 1 := by
  split <;> bv_omega

theorem toNat_colDec (b c : BitVec 5) :
    (colDec b c).toNat = if c.toNat = 0 ∨ b.toNat < c.toNat - 1 then b.toNat else c.toNat - 1 := by
  unfold colDec
  split <;> split <;> bv_omega

theorem toNat_colInc (b c : BitVec 5) :
    (colInc b c).toNat = if c.toNat = 31 ∨ b.toNat < c.toNat + 1 then 0 else c.toNat + 1 := by
  unfold colInc
  split <;> split <;> bv_omega

/-! ### The datum under the cursor -/

/-- The datum in 8-bit mode: the byte under the cursor, 0 beyond column 14 (42_lcd.md R155). -/
theorem datum_mode8 (l : Lcd) (h : l.status.getLsbD 6 = true) :
    l.datum = if l.col.toNat ≤ 14 then l.byteAt l.row l.col.toNat else 0x00 := by
  simp only [Lcd.datum, inRange_iff, lcdMode8, h, if_true, decide_eq_true_eq]

/-- The datum in 6-bit mode: the six pixels of the column, 0 beyond column 19 (42_lcd.md R155). -/
theorem datum_mode6 (l : Lcd) (h : l.status.getLsbD 6 = false) :
    l.datum = if l.col.toNat ≤ 19 then (l.extract6 l.row l.col).setWidth 8 else 0x00 := by
  simp only [Lcd.datum, inRange_iff, lcdMode8, h, Bool.false_eq_true, if_false, decide_eq_true_eq]

/-- The bits of the datum in 6-bit mode: the column's pixels below bit 6, leftmost in bit 5 (42_lcd.md R159). -/
theorem datum_mode6_bit (l : Lcd) (h : l.status.getLsbD 6 = false) (hc : l.col.toNat ≤ 19) (j : Nat) :
    l.datum.getLsbD j = (decide (j < 6) && l.pixel l.row (6 * l.col.toNat + (5 - j))) := by
  rw [datum_mode6 l h, if_pos hc]
  by_cases hj : j < 6
  · have hj8 : j < 8 := by omega
    rw [BitVec.getLsbD_setWidth, extract6_pixel _ _ _ _ hj, decide_eq_true hj, decide_eq_true hj8]
  · rw [decide_eq_false hj, Bool.false_and, BitVec.getLsbD_setWidth, BitVec.getLsbD_of_ge _ _ (by omega), Bool.and_false]

/-- The datum is there again once the cursor is set back after a step, whatever the delay flag is. -/
theorem datum_advance_setBack (l : Lcd) (b : Bool) :
    ({ l.advance with row := l.row, col := l.col, delay := b } : Lcd).datum = l.datum := by
  rw [advance_frame]
  rfl

/-! ### The datum that a write stores -/

theorem byteAt_store_mode8 (l : Lcd) (v : Byte) (h : l.status.getLsbD 6 = true) (y : BitVec 6) {b : Nat} (hb : b < 16) :
    (l.store v).byteAt y b = if y = l.row ∧ b = l.col.toNat ∧ l.col.toNat ≤ 14 then v else l.byteAt y b := by
  rw [store_mode8 l v h]
  by_cases hc : l.col.toNat ≤ 14
  · rw [if_pos hc, byteAt_setByte _ _ _ _ _ _ hb]
    simp only [hc, and_true]
  · rw [if_neg hc]
    simp only [hc, and_false, if_false]

theorem pixel_store_mode6 (l : Lcd) (v : Byte) (h : l.status.getLsbD 6 = false) (y : BitVec 6) {x : Nat} (hx : x < 128) :
    (l.store v).pixel y x =
      if y = l.row ∧ l.col.toNat ≤ 19 ∧ 6 * l.col.toNat ≤ x ∧ x < 6 * l.col.toNat + 6 then
        v.getLsbD (5 - (x - 6 * l.col.toNat))
      else l.pixel y x := by
  have hfield : (v.extractLsb' 0 6).getLsbD (5 - (x - 6 * l.col.toNat)) = v.getLsbD (5 - (x - 6 * l.col.toNat)) := by
    rw [BitVec.getLsbD_extractLsb', decide_eq_true (by omega), Bool.true_and, Nat.zero_add]
  rw [store_mode6 l v h]
  by_cases hc : l.col.toNat ≤ 19
  · rw [if_pos hc, insert6_pixel _ _ _ _ _ _ hx, hfield]
    simp only [hc, true_and]
  · rw [if_neg hc]
    simp only [hc, false_and, and_false, if_false]

@[simp] theorem store_status (l : Lcd) (v : Byte) : (l.store v).status = l.status := by rw [store_frame]
@[simp] theorem store_row (l : Lcd) (v : Byte) : (l.store v).row = l.row := by rw [store_frame]
@[simp] theorem store_col (l : Lcd) (v : Byte) : (l.store v).col = l.col := by rw [store_frame]
@[simp] theorem store_delay (l : Lcd) (v : Byte) : (l.store v).delay = l.delay := by rw [store_frame]

@[simp] theorem advance_buf (l : Lcd) : l.advance.buf = l.buf := by rw [advance_frame]
@[simp] theorem advance_delay (l : Lcd) : l.advance.delay = l.delay := by rw [advance_frame]

/-- In 8-bit mode a stored byte is the datum, up to column 14. -/
theorem datum_store_mode8 (l : Lcd) (v : Byte) (h : l.status.getLsbD 6 = true) (hc : l.col.toNat ≤ 14) :
    (l.store v).datum = v := by
  rw [datum_mode8 _ (by rw [store_status, h]), store_row, store_col, if_pos hc,
    byteAt_store_mode8 l v h _ (by omega), if_pos ⟨rfl, rfl, hc⟩]

/-- In 6-bit mode the low six bits of a stored byte are the datum, up to column 19. -/
theorem datum_store_mode6 (l : Lcd) (v : Byte) (h : l.status.getLsbD 6 = false) (hc : l.col.toNat ≤ 19) :
    (l.store v).datum = v &&& 0x3F := by
  have hlow : ∀ j : Fin 8, (0x3F : Byte).getLsbD j.val = decide (j.val < 6) := by decide
  refine BitVec.eq_of_getLsbD_eq fun j hj => ?_
  rw [datum_mode6_bit _ (by rw [store_status, h]) (by rw [store_col]; exact hc), store_row, store_col,
    BitVec.getLsbD_and, hlow ⟨j, hj⟩, Bool.and_comm]
  by_cases h6 : j < 6
  · have hbit : 5 - (6 * l.col.toNat + (5 - j) - 6 * l.col.toNat) = j := by omega
    rw [pixel_store_mode6 l v h _ (by omega), if_pos ⟨rfl, hc, by omega, by omega⟩, hbit]
  · simp only [h6, decide_false, Bool.and_false]

/-! ### Data reads and writes -/

/-- A read with the delay flag armed: the dummy read (42_lcd.md R155). -/
theorem lcdRead_armed {s : State} (h : s.lcd.delay = true) :
    lcdRead s = { s with lcd := { s.lcd with delay := false }, result := some (.byte 0x00), strobe := none } := by
  rw [lcdRead, if_pos h]; rfl

/-- A read with the delay flag clear: the datum, and a step of the cursor (42_lcd.md R155). -/
theorem lcdRead_clear {s : State} (h : s.lcd.delay = false) :
    lcdRead s = { s with lcd := s.lcd.advance, result := some (.byte s.lcd.datum), strobe := none } := by
  rw [lcdRead, h]; rfl

/-- Two reads with the delay flag armed: the dummy read, and the datum under the cursor, which steps. -/
theorem exec_inLcddata_twice {m : Model} {i : Instr} (hrow : IsInRow m .lcddata i) {t : State} (ht : t.model = m)
    (harmed : t.lcd.delay = true) :
    ∃ u w : State, exec i t = .next u ∧ u.result = some (.byte 0x00) ∧ u.lcd = { t.lcd with delay := false } ∧
      exec i u = .next w ∧ w.result = some (.byte t.lcd.datum) ∧
      w.lcd = ({ t.lcd with delay := false } : Lcd).advance := by
  have hdummy := lcdRead_armed harmed
  have hdata : lcdRead (lcdRead t) = _ := lcdRead_clear (by rw [hdummy])
  have hmodel : (lcdRead t).model = m := by rw [hdummy]; exact ht
  refine ⟨lcdRead t, lcdRead (lcdRead t), hrow.exec_eq ht, ?_, ?_, hrow.exec_eq hmodel, ?_, ?_⟩
  · rw [hdummy]
  · rw [hdummy]
  · rw [hdata, hdummy]; rfl
  · rw [hdata, hdummy]

theorem execAll_cons {i : Instr} {s t : State} (h : exec i s = .next t) (is : List Instr) :
    execAll (i :: is) s = execAll is t := by
  rw [execAll, h]

/-- The two set commands put the cursor on a column up to 15 and arm the delay flag (42_lcd.md R143, R145). -/
theorem execAll_setCursor {s : State} (hlcdc : s.model.cfg.hasLcdc = true) (r : BitVec 6) (x : BitVec 1) {c : BitVec 5}
    (hc : c.toNat ≤ 15) (is : List Instr) :
    ∃ t : State, execAll (.lcdSetrow r :: .lcdSetcol x (c.setWidth 4) :: is) s = execAll is t ∧ t.model = s.model ∧
      t.lcd = { s.lcd with row := r, col := c, delay := true } := by
  have hsetcol := exec_lcdSetcol_eq (s := cmdSetRow r s) hlcdc x (c.setWidth 4)
  rw [setWidth_col hc] at hsetcol
  exact ⟨_, (execAll_cons (exec_lcdSetrow_eq hlcdc r) _).trans (execAll_cons hsetcol is), rfl, rfl⟩

/-! ### The writers of the LCD controller -/

/-- What an operation other than RESET can do to the LCD controller: nothing, a data read, a command, or a data write
(42_lcd.md R140, R161). -/
inductive LcdEffect (l : Lcd) : Request → Lcd → Prop
  | kept (op : Request) : LcdEffect l op l
  | read {l' : Lcd} (hbuf : l'.buf = l.buf) (hdelay : l'.delay = false) : LcdEffect l (.input 0x11) l'
  | outCommand {l' : Lcd} (v : Byte) (hbuf : l'.buf = l.buf) (hdelay : l'.delay = true) :
      LcdEffect l (.output 0x10 v) l'
  | command {l' : Lcd} (v : Byte) (hbuf : l'.buf = l.buf) (hdelay : l'.delay = true) : LcdEffect l (.lcdcmd v) l'
  | write {l' : Lcd} (v : Byte) (hdelay : l'.delay = l.delay) : LcdEffect l (.output 0x11 v) l'

theorem lcdEffect_portRead (p : Byte) (s : State) : LcdEffect s.lcd (.input p) (portRead p s).lcd := by
  rcases portRead_spec p s with ⟨b, h⟩ | ⟨rfl, _, h⟩ <;> rw [h]
  · exact .kept _
  · cases hdelay : s.lcd.delay
    · rw [lcdRead_clear hdelay]
      exact .read (advance_buf _) ((advance_delay _).trans hdelay)
    · rw [lcdRead_armed hdelay]
      exact .read rfl rfl

theorem lcdEffect_portWrite (p v : Byte) (s : State) : LcdEffect s.lcd (.output p v) (portWrite p v s).lcd := by
  rcases portWrite_spec p v s with ⟨_, _, _, _, h⟩ | ⟨_, _, h⟩ | ⟨rfl, _, h⟩ | ⟨rfl, _, h⟩ | h <;> rw [h]
  · exact .kept _
  · exact .kept _
  · obtain ⟨l, e, hcommand, hbuf, hdelay⟩ := lcdCommand_spec v s
    rw [hcommand]
    exact .outCommand v hbuf hdelay
  · exact .write v ((advance_delay _).trans (store_delay _ _))
  · exact .kept _

theorem lcdEffect_lcdcmd (v : Byte) (s : State) : LcdEffect s.lcd (.lcdcmd v) (portWrite 0x10 v s).lcd := by
  rw [portWrite_lcdPort]
  split
  · obtain ⟨l, e, hcommand, hbuf, hdelay⟩ := lcdCommand_spec v s
    rw [hcommand]
    exact .command v hbuf hdelay
  · exact .kept _

/-- An operation at another interface than those of port transactions and LCD commands leaves the controller. -/
theorem Effect.keeps_lcd {s t : State} {op : Request} (h : Effect s op t) (hreset : ∀ k, op ≠ .reset k)
    (hop : transacts op.iface = false) : t.lcd = s.lcd := by
  cases h with
  | reset k | resetRefused k => exact absurd rfl (hreset k)
  | transacted htransacts _ => rw [hop] at htransacts; cases htransacts
  | _ => rfl

theorem lcdEffect_of_exec {m : Model} {op : Request} {s t : State} (h : exec (op.instr m) s = .next t)
    (hreset : ∀ k, op ≠ .reset k) : LcdEffect s.lcd op t.lcd := by
  cases op with
  | input p =>
    rw [Request.instr, exec_inRow] at h
    cases h
    exact lcdEffect_portRead p s
  | output p v =>
    rw [Request.instr, exec_outRow] at h
    cases h
    exact lcdEffect_portWrite p v s
  | lcdcmd v =>
    rw [Request.instr, Proofs.lcdCommandIsOutToPort10] at h
    cases h
    exact lcdEffect_lcdcmd v s
  | memrd | memwr | tick | reset | hostexit | hostkeys =>
    rw [(effect_of_exec h).keeps_lcd hreset rfl]
    exact .kept _

end Sys2Proof.Machine

namespace Sys2Proof.Proofs

open Sys2Proof Sys2Proof.Machine

/-- Settles O27: two commands write MODE8, two write ON, and four write DIR. -/
theorem lcdOpcodeCommandsWriteStatusBits : Obligations.LcdOpcodeCommandsWriteStatusBits := by
  intro s x hlcdc
  simp only [List.forall_mem_cons]
  refine ⟨?mode6, ?mode8, ?off, ?on, ?rowdec, ?rowinc, ?coldec, ?colinc, nofun⟩
  case mode6 => exact cmdMode_writesStatusBits (b := false) hlcdc rfl
  case mode8 => exact cmdMode_writesStatusBits (b := true) hlcdc rfl
  case off => exact cmdPower_writesStatusBits (b := false) hlcdc rfl
  case on => exact cmdPower_writesStatusBits (b := true) hlcdc rfl
  case rowdec => exact cmdDir_writesStatusBits (d := 0) hlcdc rfl
  case rowinc => exact cmdDir_writesStatusBits (d := 1) hlcdc rfl
  case coldec => exact cmdDir_writesStatusBits (d := 2) hlcdc rfl
  case colinc => exact cmdDir_writesStatusBits (d := 3) hlcdc rfl

/-- Settles O29: both rows run `lcdCommand` on a model with LCD controller. -/
theorem outLcdcmdRunsTheCommand : Obligations.OutLcdcmdRunsTheCommand := by
  intro r hr s v hs
  have hrow := isOutRow_outLcdcmd r hr
  have hlcdc : s.model.cfg.hasLcdc = true := hs ▸ hrow.hasLcdc
  obtain ⟨l, e, hcommand, hbuf, hdelay⟩ := lcdCommand_spec v s
  have hout : exec (r.2 v) s = .next (lcdCommand v s) := hrow.exec_eq hs v
  have hcmd : exec (lcdRow v) s = .next (lcdCommand v s) := (exec_lcdRow v s).trans (onLcdc_of_hasLcdc hlcdc _)
  rw [hcommand] at hout hcmd
  exact ⟨_, hout, hcmd, rfl, hbuf, hdelay⟩

/-- Settles O31: the byte is `Lcd.datum`, in each mode within the boundary and beyond it. -/
theorem lcdReadReturnsPixels : Obligations.LcdReadReturnsPixels := by
  intro r hr s hs hdelay
  have hread : exec r.2 s = .next (lcdRead s) := (isInRow_inLcddata r hr).exec_eq hs
  refine ⟨s.lcd.datum, by rw [hread, lcdRead_clear hdelay], ?_, ?_, ?_, ?_⟩
  · intro hmode hc
    rw [datum_mode8 _ hmode, if_pos hc]
  · intro hmode hc
    rw [datum_mode8 _ hmode, if_neg (Nat.not_le.mpr hc)]
  · intro hmode hc
    have hbit := datum_mode6_bit s.lcd hmode hc
    exact ⟨hbit 6, hbit 7, fun j hj => by rw [hbit, decide_eq_true hj, Bool.true_and]⟩
  · intro hmode hc
    rw [datum_mode6 _ hmode, if_neg (Nat.not_le.mpr hc)]

/-- Settles O32. -/
theorem lcdWriteStoresByte : Obligations.LcdWriteStoresByte :=
  fun r hr s v hs hmode =>
    ⟨s.lcd.store v, (isOutRow_outLcddata r hr).exec_eq hs v, store_frame s.lcd v,
      fun y _ hb => byteAt_store_mode8 s.lcd v hmode y hb⟩

/-- Settles O33. -/
theorem lcdWriteStoresSixPixels : Obligations.LcdWriteStoresSixPixels :=
  fun r hr s v hs hmode =>
    ⟨s.lcd.store v, (isOutRow_outLcddata r hr).exec_eq hs v, store_frame s.lcd v,
      fun y _ hx => pixel_store_mode6 s.lcd v hmode y hx⟩

/-- Settles O34. -/
theorem advanceStepsTheCursor : Obligations.AdvanceStepsTheCursor := by
  intro l
  refine ⟨(boundary l.status).toNat, toNat_boundary _, ?_, ?_, ?_, ?_⟩ <;> intro hdir
  · rw [advance_rowDec hdir]
    exact ⟨rfl, toNat_rowDec _⟩
  · rw [advance_rowInc hdir]
    exact ⟨rfl, toNat_rowInc _⟩
  · rw [advance_colDec hdir]
    exact ⟨rfl, toNat_colDec _ _⟩
  · rw [advance_colInc hdir]
    exact ⟨rfl, toNat_colInc _ _⟩

/-- Settles O35: every command arms the delay flag, and two reads follow. -/
theorem oneDummyReadAfterAnyCommand : Obligations.OneDummyReadAfterAnyCommand := by
  intro r hr s v hs
  have hrow := isInRow_inLcddata r hr
  have hlcdc : s.model.cfg.hasLcdc = true := hs ▸ hrow.hasLcdc
  have hcmd : exec (lcdRow v) s = .next (lcdCommand v s) := (exec_lcdRow v s).trans (onLcdc_of_hasLcdc hlcdc _)
  obtain ⟨l, e, hcommand, -, hdelay⟩ := lcdCommand_spec v s
  rw [hcommand] at hcmd
  obtain ⟨u, w, hreads⟩ := exec_inLcddata_twice hrow (t := (s.setLcd l).answer none e) hs hdelay
  exact ⟨_, u, w, hcmd, hreads⟩

/-- Settles O36: the two set commands bring the cursor back to where the byte was stored, and the second read returns the
datum there. -/
theorem lcdWriteThenReadBack : Obligations.LcdWriteThenReadBack := by
  intro rd hrd wr hwr s v x hs hs' hcol
  have hrow := isInRow_inLcddata rd hrd
  have hlcdc : s.model.cfg.hasLcdc = true := hs ▸ hrow.hasLcdc
  have hwrite : exec (wr.2 v) s = .next (lcdWrite v s) := (isOutRow_outLcddata wr hwr).exec_eq hs' v
  have hreach : s.lcd.col.toNat ≤ 15 := by split at hcol <;> omega
  obtain ⟨t, hset, hmodel, hlcd⟩ :=
    execAll_setCursor (s := lcdWrite v s) hlcdc s.lcd.row x hreach [rd.2, rd.2]
  obtain ⟨u, w, hdummy, -, -, hdata, hresult, -⟩ := exec_inLcddata_twice hrow (hmodel.trans hs) (by rw [hlcd])
  have hback : t.lcd.datum = (s.lcd.store v).datum := by
    have hsame := datum_advance_setBack (s.lcd.store v) true
    rw [store_row, store_col] at hsame
    rw [hlcd]
    exact hsame
  refine ⟨w, ?_, ?_⟩
  · rw [execAll_cons hwrite, hset, execAll_cons hdummy, execAll_cons hdata, execAll]
  · rw [hresult, hback]
    cases hmode : s.lcd.status.getLsbD 6 <;> rw [hmode] at hcol
    · rw [datum_store_mode6 _ _ hmode (by omega)]; rfl
    · rw [datum_store_mode8 _ _ hmode hcol]; rfl

/-- Settles O59, from what each operation does to the LCD controller. -/
theorem lcdStateHasItsWriters : Obligations.LcdStateHasItsWriters := by
  intro s t e rest hs h hreset
  have heffect : LcdEffect s.lcd e.op t.lcd :=
    lcdEffect_of_exec (s := s.present e rest) (step_of_pending_cons hs ▸ h) hreset
  generalize e.op = op, t.lcd = l at heffect
  cases heffect with
  | kept => exact ⟨fun _ => rfl, fun _ _ hd => hd, fun _ hd => hd, fun _ _ _ _ => rfl⟩
  | read hbuf hdelay =>
    exact ⟨fun _ => hbuf, fun _ _ _ => hdelay, fun hin => absurd rfl hin, fun hin => absurd rfl hin⟩
  | outCommand v hbuf hdelay =>
    exact ⟨fun _ => hbuf, fun hout => absurd rfl (hout v), fun _ _ => hdelay, fun _ _ hout => absurd rfl (hout v)⟩
  | command v hbuf hdelay =>
    exact ⟨fun _ => hbuf, fun _ hcmd => absurd rfl (hcmd v), fun _ _ => hdelay, fun _ _ _ hcmd => absurd rfl (hcmd v)⟩
  | write v hdelay =>
    exact ⟨fun hout => absurd rfl (hout v), fun _ _ hd => hdelay.trans hd, fun _ hd => hdelay.trans hd,
      fun _ hout => absurd rfl (hout v)⟩

/-- Settles O25. -/
theorem inLcdstatReturnsLcdStatus : Obligations.InLcdstatReturnsLcdStatus :=
  fun r hr _ hs => (isInRow_inLcdstat r hr).exec_eq hs

/-- Settles O26. -/
theorem lcdAddressCommandsStoreOperand : Obligations.LcdAddressCommandsStoreOperand :=
  fun _ hlcdc => ⟨exec_lcdSetrow_eq hlcdc, fun _ => onLcdc_of_hasLcdc hlcdc _, exec_lcdSetcol_eq hlcdc,
    fun _ => onLcdc_of_hasLcdc hlcdc _⟩

/-- Settles O28. -/
theorem lcdCommandsWithoutControllerChangeNothing : Obligations.LcdCommandsWithoutControllerChangeNothing :=
  fun s v hlcdc => (exec_lcdRow v s).trans (onLcdc_of_no_lcdc hlcdc _)

/-- Settles O30. -/
theorem lcdReadAfterCommandIsDummy : Obligations.LcdReadAfterCommandIsDummy := by
  intro r hr s hs hdelay
  rw [← lcdRead_armed hdelay]
  exact (isInRow_inLcddata r hr).exec_eq hs

end Sys2Proof.Proofs
end

section
/-! PROOFS of the tick sequencer's statements (43_tick_sequencer.md): the five steps of a tick in arithmetic on what
they read, and what a run of ticks makes of the two counters. -/

namespace Sys2Proof.Machine

/-! ### The steps of a tick -/

/-- The low-power pattern is compared with the low four bits of `CONTROL` alone (43_tick_sequencer.md R181). -/
theorem and_lowPowerMask_eq_iff (c : Byte) :
    c &&& Config.lowPowerMask = Config.lowPowerPattern ↔ c.toNat % 16 = 1 := by
  rw [← BitVec.toNat_inj, BitVec.toNat_and]
  exact Eq.congr_left (Nat.and_two_pow_sub_one_eq_mod c.toNat 4)

/-- An interrupt is pending when one of the low three bits of STATUS is set (43_tick_sequencer.md R189). -/
theorem and_irqMask_ne_zero_iff (st : Byte) : st &&& Config.irqMask ≠ 0 ↔ st.toNat % 8 ≠ 0 := by
  rw [Ne, ← BitVec.toNat_inj, BitVec.toNat_and]
  exact not_congr (Eq.congr_left (Nat.and_two_pow_sub_one_eq_mod st.toNat 3))

theorem powerOff_eq (c : Byte) (n : Nat) (h : Bool) :
    powerOff c n h = decide (c.toNat % 16 = 1 ∧ n = 0 ∧ h = true) := by
  rw [Bool.eq_iff_iff, powerOff, Bool.and_eq_true, Bool.and_eq_true, beq_iff_eq, beq_iff_eq, and_lowPowerMask_eq_iff,
    decide_eq_true_eq, and_assoc]

theorem onState_eq (onKey : Bool) (n : Nat) : onState onKey n = decide (onKey = true ∨ n ≠ 0) := by
  rw [Bool.eq_iff_iff, onState, Bool.or_eq_true, bne_iff_ne, decide_eq_true_eq]

theorem tickResult_eq (quit : Bool) (st : Byte) :
    tickResult quit st = if quit then .quit else if st.toNat % 8 ≠ 0 then .irq else .none := by
  simp only [tickResult, and_irqMask_ne_zero_iff]

/-- The bits of STATUS as a tick recomputes it (43_tick_sequencer.md R185). -/
theorem getLsbD_statusByte (c : Byte) (on : Bool) (j : Fin 8) :
    (statusByte c on).getLsbD j.val =
      if j = 0 then c.getLsbD 0 && on
      else if j = 1 then c.getLsbD 1
      else if j = 2 then c.getLsbD 2
      else if j = 3 then !on
      else false := by
  have honN : ∀ (b : Bool) (j : Fin 8),
      (if b then 0x00 else 0x08 : Byte).getLsbD j.val = (decide (j = 3) && !b) := by decide
  have hvideo : ∀ j : Fin 8, (0x04 : Byte).getLsbD j.val = decide (j = 2) := by decide
  have htimer : ∀ j : Fin 8, (0x02 : Byte).getLsbD j.val = decide (j = 1) := by decide
  have honIrq : ∀ (b : Bool) (j : Fin 8),
      (if b then 0x01 else 0x00 : Byte).getLsbD j.val = (decide (j = 0) && b) := by decide
  simp only [statusByte, BitVec.getLsbD_or, BitVec.getLsbD_and, honN, hvideo, htimer, honIrq]
  split_ifs <;> simp [*]

/-- The counter falls by one and never below 0 (43_tick_sequencer.md R184). -/
theorem tick_startupOn (b : Bool) (s : State) : (tick b s).startupOn = s.startupOn - 1 := by
  change (if s.startupOn = 0 then 0 else s.startupOn - 1) = _
  split <;> omega

theorem tick_onKey (b : Bool) (s : State) : (tick b s).onKey = s.onKey := rfl

theorem tick_uperiod (b : Bool) (s : State) : (tick b s).uperiod = s.uperiod := rfl

theorem tick_strobe (b : Bool) (s : State) :
    (tick b s).strobe = if refreshFires s then some .refresh else none := rfl

theorem tick_strobe_eq_refresh_iff (b : Bool) (s : State) :
    (tick b s).strobe = some .refresh ↔ Config.refreshThreshold ≤ s.uCount + s.uperiod := by
  rw [tick_strobe, ← refreshFires_iff]
  cases refreshFires s <;> simp

/-- `ON_N` after a tick is the complement of the ON key as the tick saw it (43_tick_sequencer.md R183, R185). -/
theorem tick_getLsbD_onN (b : Bool) (s : State) :
    (tick b s).ports[8].getLsbD 3 = !onState s.onKey s.startupOn := by
  have hstatus : (tick b s).ports[8] = tickStatus s := Vector.getElem_set_self _
  rw [hstatus]
  exact getLsbD_statusByte (s.port 3) _ 3

/-- What a tick writes, and that it writes nothing else (43_tick_sequencer.md R180). -/
theorem tick_eq (b : Bool) (s : State) :
    tick b s = { s with
      exitNow := tickExit b s
      startupOn := s.startupOn - 1
      ports := s.ports.set 8 (tickStatus s)
      uCount := if refreshFires s then refreshSum s - Config.refreshThreshold else refreshSum s
      strobe := if refreshFires s then some .refresh else none
      result := some (.tick (tickResult (tickExit b s) (tickStatus s))) } := by
  rw [← tick_startupOn b s]
  rfl

/-- With both the counter and the level in their bounds, one subtraction of the threshold is the remainder
(10_state.md R34). -/
theorem tick_uCount_eq_mod (b : Bool) {s : State} (hlevel : s.uperiod ≤ Config.refreshThreshold)
    (hcount : s.uCount < Config.refreshThreshold) :
    (tick b s).uCount = (s.uCount + s.uperiod) % Config.refreshThreshold := by
  have hmod : (tick b s).uCount % Config.refreshThreshold = (s.uCount + s.uperiod) % Config.refreshThreshold := by
    rw [tick_uCount]
    split
    · exact (Nat.mod_eq_sub_mod ((refreshFires_iff s).mp ‹_›)).symm
    · rfl
  rw [← hmod, Nat.mod_eq_of_lt (tick_uCount_lt b hlevel hcount)]

/-! ### Runs of ticks -/

/-- The state after a run of ticks, one for each value of the halted input. -/
def ticks (hs : List Bool) (s : State) : State := hs.foldl (fun t b => tick b t) s

theorem ticks_cons (b : Bool) (hs : List Bool) (s : State) : ticks (b :: hs) s = ticks hs (tick b s) := rfl

theorem ticks_concat (hs : List Bool) (b : Bool) (s : State) : ticks (hs ++ [b]) s = tick b (ticks hs s) :=
  List.foldl_concat ..

/-- Every run of ticks completes. -/
theorem execAll_ticks (hs : List Bool) (s : State) : execAll (hs.map Instr.tick) s = some (ticks hs s) := by
  induction hs generalizing s with
  | nil => rfl
  | cons b hs ih => rw [List.map_cons, execAll_cons (exec_tick b s), ih, ticks_cons]

/-- What no tick changes, no run of ticks changes. -/
theorem ticks_keeps {α : Type} {f : State → α} (hf : ∀ b s, f (tick b s) = f s) (hs : List Bool) (s : State) :
    f (ticks hs s) = f s := by
  induction hs generalizing s with
  | nil => rfl
  | cons b hs ih => rw [ticks_cons, ih, hf]

theorem ticks_onKey (hs : List Bool) (s : State) : (ticks hs s).onKey = s.onKey :=
  ticks_keeps tick_onKey hs s

theorem ticks_uperiod (hs : List Bool) (s : State) : (ticks hs s).uperiod = s.uperiod :=
  ticks_keeps tick_uperiod hs s

theorem ticks_startupOn (hs : List Bool) (s : State) : (ticks hs s).startupOn = s.startupOn - hs.length := by
  induction hs generalizing s with
  | nil => rfl
  | cons b hs ih => rw [ticks_cons, ih, tick_startupOn, List.length_cons, Nat.sub_sub, Nat.add_comm 1]

theorem ticks_uCount (hs : List Bool) {s : State} (hlevel : s.uperiod ≤ Config.refreshThreshold)
    (hcount : s.uCount < Config.refreshThreshold) :
    (ticks hs s).uCount = (s.uCount + hs.length * s.uperiod) % Config.refreshThreshold := by
  induction hs generalizing s with
  | nil => rw [List.length_nil, Nat.zero_mul, Nat.add_zero, Nat.mod_eq_of_lt hcount]; rfl
  | cons b hs ih =>
    rw [ticks_cons, ih (s := tick b s) hlevel (tick_uCount_lt b hlevel hcount), tick_uCount_eq_mod b hlevel hcount,
      tick_uperiod, Nat.mod_add_mod, List.length_cons, Nat.add_one_mul, Nat.add_assoc, Nat.add_comm s.uperiod]

/-- An addition takes the remainder to the modulus exactly when it takes the sum over a multiple of it. -/
theorem le_mod_add_iff_div_lt {k : Nat} (hk : 0 < k) (a p : Nat) : k ≤ a % k + p ↔ a / k < (a + p) / k := by
  have hsplit : a / k * k + a % k = a := Nat.div_add_mod' a k
  rw [← Nat.succ_le_iff, Nat.le_div_iff_mul_le hk, Nat.succ_mul]
  omega

end Sys2Proof.Machine

namespace Sys2Proof.Proofs

open Sys2Proof Sys2Proof.Machine

/-- Settles O45: `tick_eq` with each step in arithmetic. -/
theorem tickRunsItsFiveSteps : Obligations.TickRunsItsFiveSteps := by
  intro s h on quit st n hquit hon hst hn
  have hexit : quit = tickExit h s := by rw [hquit, tickExit, powerOff_eq]; rfl
  have hstatus : st = tickStatus s := by
    rw [tickStatus, onState_eq, ← hon]
    exact BitVec.eq_of_getLsbD_eq fun j hj => (hst ⟨j, hj⟩).trans (getLsbD_statusByte _ _ ⟨j, hj⟩).symm
  have hsum : n = refreshSum s := hn
  have hfires : refreshFires s = true ↔ 40000 ≤ n := hn ▸ refreshFires_iff s
  rw [exec_tick, execTick, tick_eq, ← tickResult_eq, ← hexit, ← hstatus, ← hsum]
  simp only [hfires]
  rfl

/-- Settles O47: the counter of the start less the ticks before the last one is what the last one sees. -/
theorem gracePeriodLastsStartupOnTicks : Obligations.GracePeriodLastsStartupOnTicks := by
  intro hs h s
  refine ⟨_, execAll_ticks (hs ++ [h]) s, ?_, ?_⟩
  · rw [ticks_startupOn, List.length_append, List.length_singleton]
  · simp only [ticks_concat, tick_getLsbD_onN, ticks_onKey, ticks_startupOn, onState_eq, Nat.sub_ne_zero_iff_lt,
      Bool.decide_or, Bool.decide_eq_true]

/-- Settles O48: the last tick adds UPERIOD to the remainder that the ticks before it left. -/
theorem refreshCountKeepsTheRemainder : Obligations.RefreshCountKeepsTheRemainder := by
  intro hs h s hlevel hcount
  refine ⟨_, execAll_ticks (hs ++ [h]) s, ?_, ?_⟩
  · rw [ticks_uCount _ hlevel hcount, List.length_append, List.length_singleton]
    rfl
  · rw [ticks_concat, tick_strobe_eq_refresh_iff, ticks_uCount hs hlevel hcount, ticks_uperiod, Nat.add_one_mul,
      ← Nat.add_assoc]
    exact le_mod_add_iff_div_lt (Nat.zero_lt_succ _) _ _

/-- Settles O49. -/
theorem hostOperationsChangeOnlyTheirInputs : Obligations.HostOperationsChangeOnlyTheirInputs :=
  ⟨exec_hostexit, fun s k o => exec_hostkeys k o s⟩

end Sys2Proof.Proofs
end

section
/-! PROOFS of the exception statement (60_exceptions.md R200): where the invariant holds every operation completes, so
a run of any length does. -/

namespace Sys2Proof

/-- A predicate under which every step goes on, and which every step keeps, holds at the end of a run of any length. -/
theorem run_next_of_invariant {M : Host.Core} {P : M.State → Prop}
    (hprogress : ∀ s, P s → ∃ t, M.step s = .next t)
    (hkeep : ∀ s t, P s → M.step s = .next t → P t) (n : Nat) {s : M.State} (hs : P s) :
    ∃ t, M.run n s = .next t ∧ P t := by
  induction n generalizing s with
  | zero => exact ⟨s, rfl, hs⟩
  | succ n ih =>
    obtain ⟨u, hstep⟩ := hprogress s hs
    obtain ⟨t, hrun, ht⟩ := ih (hkeep s u hs hstep)
    exact ⟨t, by rw [Host.Core.run, hstep]; exact hrun, ht⟩

end Sys2Proof

namespace Sys2Proof.Machine

/-- A write completes where the address has a byte, through either kind of window (20_memory.md R45). -/
theorem execMemwr_completes {a : Addr} {s : State} (v : Byte) (hin : s.inArena a = true) :
    ∃ t, execMemwr a v s = .next t := by
  cases harena : (s.pageOf a).arena with
  | rom => exact ⟨_, execMemwr_of_rom v harena⟩
  | ram => exact ⟨_, execMemwr_of_ram v harena hin⟩

/-- RESET completes, accepted or not (70_reset_and_hazards.md R230, notes/assumptions/7.md). -/
theorem execReset_completes (k : Byte) (s : State) : ∃ t, execReset k s = .next t := by
  rcases execReset_next k s with ⟨_, _, _, haccepted⟩ | hrefused
  · exact ⟨_, haccepted⟩
  · exact ⟨_, hrefused⟩

namespace State.Inv

variable {s : State}

/-- R200: no operation fails. Only the memory port has a fault to raise, and no address leaves its arena (R43). -/
theorem exec_completes (h : s.Inv) (m : Model) (op : Request) : ∃ t, exec (op.instr m) s = .next t := by
  cases op with
  | memrd a => exact ⟨_, execMemrd_of_inArena (h.inArena a)⟩
  | memwr a v => exact execMemwr_completes v (h.inArena a)
  | input p => exact ⟨_, exec_inRow (tagField m) p s⟩
  | output p v => exact ⟨_, exec_outRow (tagField m) p v s⟩
  | lcdcmd v => exact ⟨_, exec_lcdRow v s⟩
  | tick b => exact ⟨_, exec_tick b s⟩
  | reset k => exact execReset_completes k s
  | hostexit => exact ⟨_, exec_hostexit s⟩
  | hostkeys k o => exact ⟨_, exec_hostkeys k o s⟩

/-- No step stops: an empty list leaves the state (notes/assumptions/1.md), and the bytes of an operation always decode
(30_encoding.md R69). -/
theorem step_completes (h : s.Inv) : ∃ t, step s = .next t := by
  cases hs : s.pending with
  | nil => exact ⟨s, step_of_pending_nil hs⟩
  | cons e rest =>
    rw [step_of_pending_cons hs]
    exact (h.present e rest).exec_completes s.model e.op

end State.Inv

end Sys2Proof.Machine

namespace Sys2Proof.Proofs

open Sys2Proof Sys2Proof.Machine

/-- Settles O55: under the invariant every step goes on, and every step keeps it. -/
theorem noRunEverStops : Obligations.NoRunEverStops := fun n _ hinv =>
  run_next_of_invariant (M := Sys2Proof.core) (P := State.Inv) (fun _ h => h.step_completes) stepKeepsInv n hinv

end Sys2Proof.Proofs
end

section
/-! PROOFS of the RESET statements (70_reset_and_hazards.md R230, R233): what a RESET does follows from the model that its
index names, if any, and from the size of that model's image. -/

namespace Sys2Proof

/-- The model of a model's index is that model (00_scope.md R7). -/
theorem Model.ofIndex_index (m : Model) : Model.ofIndex m.index.val = some m := by
  cases m <;> rfl

/-- An index above 7 names no model (93_implementation_defined.md U14). -/
theorem Model.ofIndex_eq_none {n : Nat} (h : 8 ≤ n) : Model.ofIndex n = none := by
  obtain ⟨d, rfl⟩ := Nat.exists_eq_add_of_le' h
  rfl

end Sys2Proof

namespace Sys2Proof.Machine

section

variable {k : Byte} {m : Model} {s : State}

/-- The check of R232 on the image that the host supplies for the model. -/
theorem State.imageFits_iff : s.imageFits m = true ↔ s.romImages[m.index].size = m.cfg.romSize :=
  beq_iff_eq

/-- RESET to a model asks for the size of the model's image alone. -/
theorem execReset_of_index (hk : m.index.val = k.toNat) :
    execReset k s = .next (if s.imageFits m then (s.resetTo m).answer none none else s.answer (some .refused) none) := by
  rw [execReset, ← hk, Model.ofIndex_index]

/-- RESET to a model with an image of its size is accepted (70_reset_and_hazards.md R230). -/
theorem execReset_of_imageFits (hk : m.index.val = k.toNat) (hfits : s.imageFits m = true) :
    execReset k s = .next ((s.resetTo m).answer none none) := by
  rw [execReset_of_index hk, if_pos hfits]

/-- RESET to a model with an image of another size is refused (93_implementation_defined.md U2). -/
theorem execReset_of_not_imageFits (hk : m.index.val = k.toNat) (hfits : ¬ s.imageFits m = true) :
    execReset k s = .next (s.answer (some .refused) none) := by
  rw [execReset_of_index hk, if_neg hfits]

/-- RESET to an index that no model has is refused (93_implementation_defined.md U14). -/
theorem execReset_of_index_above (hk : 8 ≤ k.toNat) : execReset k s = .next (s.answer (some .refused) none) := by
  rw [execReset, Model.ofIndex_eq_none hk]

end

end Sys2Proof.Machine

namespace Sys2Proof.Proofs

open Sys2Proof Sys2Proof.Machine

/-- Settles O50: each row of the table pairs a model with its index, so the RESET is accepted, and the statement writes out
`State.resetTo`. -/
theorem resetSetsEveryPieceOfState : Obligations.ResetSetsEveryPieceOfState := by
  intro r hr s hsize
  have hindex : r.2.index.val = r.1.toNat := by
    clear hsize
    revert r
    decide
  exact (exec_reset r.1 s).trans (execReset_of_imageFits hindex (State.imageFits_iff.mpr hsize))

/-- Settles O52: no model has the index, or the model's image is not of its size; `State.answer` leaves the rest. -/
theorem refusedResetLeavesTheBlock : Obligations.RefusedResetLeavesTheBlock := by
  refine ⟨fun k s habove => ?_, fun k m s hindex hsize => ?_⟩
  · exact (exec_reset k s).trans (execReset_of_index_above habove)
  · exact (exec_reset k s).trans (execReset_of_not_imageFits hindex (mt State.imageFits_iff.mp hsize))

end Sys2Proof.Proofs
end
